-- ==== Sys2Proof/Word.lean ====
section
/-! DEFINITION. The units of data the manual counts in (00_scope.md, CONVENTIONS): bytes, 8-byte
words, 32-bit byte addresses, and the bit patterns named by a width. -/

namespace Sys2Proof

/-- Eight bits. -/
abbrev Byte := BitVec 8

/-- A word is 8 bytes, byte 0 the least significant (00_scope.md, BYTES AND WORDS). -/
abbrev Word := BitVec 64

/-- A 32-bit byte address (00_scope.md, ADDRESSES). -/
abbrev Addr := BitVec 32

/-- A 13-bit packet identifier, 0000h to 1FFFh (R67). -/
abbrev Pid := BitVec 13

/-- A set of initiators as the sixteen bits of R177: bit k stands for initiator k. -/
abbrev InitiatorSet := BitVec 16

/-- A 128-bit control word as its 16 bytes, in the order LOAD_KEY carries them (R98). -/
abbrev ControlWord := Vector Byte 16

end Sys2Proof
end

