-- ==== Sys2Proof/Config.lean ====
section
/-! DEFINITION. The fixed sizes and limits of the part (00_scope.md, PRINCIPAL QUANTITIES). The
manual leaves no value of a run open, so there is no free value here (NOTES.md, "Free values"). -/

namespace Sys2Proof

/-- Initiators 0 to 15; 15 is the part's own number (R1). -/
abbrev Initiator := Fin 16
/-- The twelve aperture entries (R18). -/
abbrev ApertureNo := Fin 12
/-- The 48 stream map entries (R79). -/
abbrev StreamNo := Fin 48
/-- The 24 service contexts (R107). -/
abbrev ServiceNo := Fin 24
/-- The six job slots (R143). -/
abbrev JobNo := Fin 6

namespace Config

/-- The pending list holds at most 24 requests (R5). -/
def pendingLimit : Nat := 24
/-- The merge table holds at most 6 entries (R51). -/
def mergeLimit : Nat := 6
/-- The slot tracker holds at most 20 open entries (R85). -/
def trackerLimit : Nat := 20
/-- The capture queue holds at most 48 records (R165). -/
def captureLimit : Nat := 48
/-- The saturation count stops at 65,535 (R33, R40). -/
def saturationLimit : Nat := 65535
/-- The retire age stops at 65,535 (R122). -/
def ageLimit : Nat := 65535
/-- The reference is qualified over 64 consecutive ticks (R134). -/
def qualificationLimit : Nat := 64
/-- A packet slot is 192 bytes (R66). -/
def slotBytes : Nat := 192
/-- A packet slot is 24 words (R66). -/
def slotWords : Nat := 24
/-- A sample block is 64 view bytes (R35). -/
def blockBytes : Nat := 64
/-- A line is 128 bytes (00_scope.md, BYTES AND WORDS). -/
def lineBytes : Nat := 128
/-- A granule is 4,096 bytes (R18). -/
def granuleBytes : Nat := 4096
/-- The initiator number of the part itself (R1). -/
def ownInitiator : Initiator := 15

end Config
end Sys2Proof
end

