-- ==== Sys2Proof/Vocabulary.lean ====
section
/-! DEFINITION. The records and lists of named values in which the manual speaks: requests and
responses (R1, R2), the choices of the tables, the causes and groups, and the raw parameters a
management command carries (R177). The order of each list is the one its owning rule gives, since
R177 codes a choice by its position. -/

namespace Sys2Proof

/-! ### The memory path -/

/-- Where a request comes from (R5). -/
inductive Source
  | upstream
  | job
deriving DecidableEq, Repr

/-- The kind of a request or access (R1, R164). -/
inductive Kind
  | read
  | write
deriving DecidableEq, Repr

/-- One word of write data with its eight byte enables, bit j for byte j (R1). -/
structure WriteWord where
  data    : Word
  enables : Byte
deriving DecidableEq, Repr

/-- What a request asks for: a read of a number of words, or a write whose length is the number of
words of data it brings (R1: one word per unit of length). -/
inductive Op
  | read (length : Nat)
  | write (words : List WriteWord)
deriving DecidableEq, Repr

/-- A request record of the upstream port, the job engine and the memory port (R1, R12). -/
structure Request where
  initiator : Initiator
  tag       : Fin 16
  op        : Op
  address   : Addr
deriving DecidableEq, Repr

/-- How a request ended (R2), in R2's order. -/
inductive Status
  | done
  | refused
  | fault
  | reset
deriving DecidableEq, Repr

/-- A response record (R2); a write's response carries no data. -/
structure Response where
  initiator : Initiator
  tag       : Fin 16
  status    : Status
  data      : List Word
deriving DecidableEq, Repr

/-- The order a request belongs to: each upstream initiator has one, the upstream requests that
claim 15 have theirs, and the job requests have their own (R3, R11). -/
inductive Owner
  | upstream (initiator : Initiator)
  | job
deriving DecidableEq, Repr

/-- The memory controller's answer (R13). An OKAY answer shows sixteen words of read data, of which
a read of n words takes the first n (no request is longer, R1) and a write none. -/
inductive Answer
  | okay (data : Vector Word 16)
  | error
deriving DecidableEq, Repr

/-! ### Tables -/

/-- The form in which an aperture presents memory (R18). -/
inductive View
  | raw
  | sample
  | packet
deriving DecidableEq, Repr

/-- What is done with a request from outside the relevant set (R18). -/
inductive Violation
  | refuse
  | divert
  | note
deriving DecidableEq, Repr

/-- CLEAR or NULL: the unlisted treatment of an aperture (R18) and the unkeyed policy of a service
(R107). -/
inductive ClearOrNull
  | clear
  | null
deriving DecidableEq, Repr

/-- What is done with a request in no valid entry (R24). -/
inductive UnmappedAction
  | forward
  | forwardNote
  | refuse
  | divert
deriving DecidableEq, Repr

/-- The treatment of a stream map entry (R79). -/
inductive Treatment
  | clear
  | scramble
  | null
deriving DecidableEq, Repr

/-- The name of a key slot within its service (R108). -/
inductive Phase
  | a
  | b
deriving DecidableEq, Repr

/-- The state of a service (R107). -/
inductive ServiceState
  | idle
  | running
  | starved
  | withholding
deriving DecidableEq, Repr

/-- The state of a key slot (R108). -/
inductive KeyState
  | empty
  | ready
  | active
  | retiring
deriving DecidableEq, Repr

/-- The reference states of the timebase (R133). -/
inductive TimeState
  | local
  | acquiring
  | locked
  | holdover
  | frozen
deriving DecidableEq, Repr

/-- The two clocks whose edges can make ticks (R130, R133). -/
inductive TickSource
  | localOscillator
  | stationReference
deriving DecidableEq, Repr

/-- The kinds of job (R143). -/
inductive JobKind
  | fill
  | convert
  | sweep
  | digest
deriving DecidableEq, Repr

/-- The event that starts a job (R143). -/
inductive Trigger
  | noTrigger
  | command
  | frame
  | flip (service : ServiceNo)
  | done (slot : JobNo)
deriving DecidableEq, Repr

/-- The state of a job slot (R144). -/
inductive JobState
  | disabled
  | idle
  | pending
  | running
  | suspended
deriving DecidableEq, Repr

/-- The status of a result record (R143). -/
inductive JobStatus
  | notRun
  | done
  | aborted
  | faulted
deriving DecidableEq, Repr

/-! ### Reports -/

/-- The kinds of capture record (R164). -/
inductive CaptureKind
  | illFormed
  | denied
  | noted
  | unmapped
  | malformed
  | orphan
  | abandoned
  | clearReadFailed
  | jobFault
  | memoryFault
deriving DecidableEq, Repr

/-- Why a tracker entry was abandoned (R94, R164). -/
inductive CloseReason
  | idle
  | evicted
  | reconfigured
  | purge
deriving DecidableEq, Repr

/-- The four groups of causes (R168). -/
inductive Group
  | path
  | keys
  | jobs
  | timebase
deriving DecidableEq, Repr

/-- The sixteen causes (R168), in the order of its table. -/
inductive Cause
  | captureReady
  | captureOverrun
  | memoryFault
  | saturation
  | pathResetDone
  | keyWanted
  | starved
  | withholding
  | purged
  | jobDone
  | jobFault
  | jobAborted
  | triggerOverflow
  | locked
  | refLost
  | frozen
deriving DecidableEq, Repr

/-- The statuses of the management port, in the order of the status code table (11, STATUS CODES). -/
inductive PortStatus
  | ok
  | badFrame
  | badCommand
  | badParameter
  | conflict
  | duplicate
  | state
  | noKey
  | activeSlot
  | slotBusy
  | purgeHeld
  | busy
  | empty
deriving DecidableEq, Repr

/-! ### The management port -/

/-- What the controller clocked in during one select period: the whole bytes, and the bits of a
further byte that was not completed (R174, R175). -/
structure Period where
  bytes     : List Byte
  extraBits : Fin 8
deriving DecidableEq, Repr

/-- The 23 parameter bytes of WRITE_APERTURE, field by field (R18, R28, R177). -/
structure ApertureParams where
  entry     : Byte
  valid     : Byte
  base      : BitVec 24
  limit     : BitVec 24
  view      : Byte
  writeSet  : InitiatorSet
  readSet   : InitiatorSet
  violation : Byte
  backing   : Addr
  width     : Byte
  depth     : Byte
  clearRead : InitiatorSet
  unlisted  : Byte
deriving DecidableEq, Repr

/-- The 10 parameter bytes of WRITE_STREAM (R79, R80, R177). -/
structure StreamParams where
  entry         : Byte
  valid         : Byte
  input         : BitVec 16
  outputPresent : Byte
  output        : BitVec 16
  servPresent   : Byte
  service       : Byte
  treatment     : Byte
deriving DecidableEq, Repr

/-- The 7 parameter bytes of WRITE_SERVICE (R110, R177). -/
structure ServiceParams where
  service : Byte
  period  : BitVec 16
  guard   : BitVec 16
  limit   : Byte
  policy  : Byte
deriving DecidableEq, Repr

/-- The 6 parameter bytes of WRITE_TIMEBASE (R137, R177). -/
structure TimebaseParams where
  select   : Byte
  prescale : Byte
  divider  : BitVec 16
  limit    : BitVec 16
deriving DecidableEq, Repr

/-- The 26 parameter bytes of WRITE_JOB (R143, R145, R177). -/
structure JobParams where
  slot        : Byte
  enable      : Byte
  kind        : Byte
  source      : Addr
  target      : Addr
  length      : BitVec 24
  pattern     : Word
  trigger     : Byte
  triggerOf   : Byte
  windowBound : Byte
  boundary    : Byte
deriving DecidableEq, Repr

/-- The levels of the inputs at the end of power-on reset (R132, R141, R179), and whether a select
period is then under way (R180), begun under the reset or before it (log 24). -/
structure Levels where
  refPresent  : Bool
  windowOpen  : Bool
  purgeHeld   : Bool
  selectUnderway : Bool
deriving DecidableEq, Repr

end Sys2Proof
end

