-- ==== Sys2Proof/Syntax.lean ====
section
/-! DEFINITION. The commands of the part: one constructor for each row of spec/opcode_table.json, in
the table's order, with the operands the row's event brings. A management command carries the bytes
of its parameters (R177), so that every coding a frame can hold is a command. -/

namespace Sys2Proof

/-- The steps of the part (95_what_each_step_holds.md: each whole and indivisible). -/
inductive Instr
  /-- R5: the intake takes a request; `arrivals` are the requests the interconnect has presented
  since the last take, behind those already waiting at the upstream port. -/
  | takeRequest (arrivals : List Request)
  /-- R12: the memory controller takes the oldest waiting access; `swap` takes the second of two
  accesses handed over together first. -/
  | issueAccess (swap : Bool)
  /-- R13: an answer arrives from the memory controller. -/
  | memoryAnswer (answer : Answer)
  /-- R11: the oldest answerable entry of one order is released. -/
  | releaseResponse (owner : Owner)
  /-- R131: a tick is made. -/
  | tick
  /-- R97: the slot tracker closes the first aged entry of the tick. -/
  | idleClose
  /-- R123: a RETIRING key slot becomes EMPTY. -/
  | retirement (service : ServiceNo) (phase : Phase)
  /-- R119: a service whose counter fell to 0 at the tick expires. -/
  | expiry (service : ServiceNo)
  /-- R134: the qualification count has reached 64. -/
  | referenceQualified
  /-- R135: the holdover countdown has reached 0. -/
  | holdoverEnd
  /-- R133: the detector reports the reference absent. -/
  | referenceLost
  /-- R133: the detector reports the reference present. -/
  | referenceReturned
  /-- R140: a falling edge of the frame pulse input. -/
  | frameStart
  /-- R141: a rising edge of the window input. -/
  | windowOpening
  /-- R160: a falling edge of the window input. -/
  | windowClosing
  /-- R179: the purge input qualifies as asserted. -/
  | purgeAssertion
  /-- R179: the purge input qualifies as released. -/
  | purgeRelease
  /-- R180: the reset input is asserted. -/
  | resetAssertion
  /-- R180: the reset input is released, the other inputs standing at `levels`. -/
  | resetRelease (levels : Levels)
  /-- R180: power-up, which acts as an assertion of the reset input. -/
  | powerUp
  /-- R174: a select period of `edges` clock edges whose first byte is 00h. -/
  | readPeriod (edges : Nat)
  /-- R175: a request period whose frame fails a framing, length or CRC check. -/
  | badFrame (period : Period)
  /-- R175: a good request frame whose code names no command. -/
  | badCommand (code : Byte) (params : List Byte)
  /-- R25. -/
  | writePath (action limit : Byte)
  /-- R25. -/
  | readPath
  /-- R28. -/
  | writeAperture (params : ApertureParams)
  /-- R33. -/
  | readAperture (entry clear : Byte)
  /-- R27. -/
  | writeMask (initiator : Byte) (mask : BitVec 16)
  /-- R27. -/
  | readMask (initiator : Byte)
  /-- R80. -/
  | writeStream (params : StreamParams)
  /-- R82. -/
  | readStream (entry : Byte)
  /-- R110. -/
  | writeService (params : ServiceParams)
  /-- R111. -/
  | readService (service : Byte)
  /-- R112. -/
  | loadKey (service phase : Byte) (word : ControlWord)
  /-- R116. -/
  | stop (service : Byte)
  /-- R115. -/
  | start (service phase : Byte)
  /-- R120. -/
  | flip (service : Byte)
  /-- R137. -/
  | writeTimebase (params : TimebaseParams)
  /-- R139. -/
  | readTimebase
  /-- R138. -/
  | acceptLocal
  /-- R145. -/
  | writeJob (params : JobParams)
  /-- R147. -/
  | readJob (slot clear : Byte)
  /-- R150; FFh is ALL (R177). -/
  | triggerJob (slot : Byte)
  /-- R166. -/
  | readCapture
  /-- R168. -/
  | readEvents
  /-- R168: one byte of causes for each group (R177). -/
  | clearEvents (path keys jobs timebase : Byte)
  /-- R169. -/
  | writeEventEnables (group set : Byte)
  /-- R171. -/
  | ackGroup (group : Byte)
  /-- R167. -/
  | clearOverrun
  /-- R15, R178. -/
  | pathReset
  /-- R126, R178. -/
  | keyPurge
deriving DecidableEq, Repr

end Sys2Proof
end

