-- ==== Sys2Proof/Decode.lean ====
section
/-! DEFINITION. The coding of management frames (R174 to R177): the CRC, the command codes, the frame
of each management command, and the examination of a select period. No row of the table gives bits,
so `decodeTableWord` reads no word. -/

namespace Sys2Proof

/-! ### CRC-8 (R176) -/

/-- One shift of the CRC register toward its most significant bit (R176). -/
def crcShift (c : Byte) : Byte :=
  if c.getLsbD 7 then (c <<< 1) ^^^ 0x07#8 else c <<< 1

/-- One byte taken into the CRC register (R176). -/
def crcByte (c b : Byte) : Byte :=
  crcShift (crcShift (crcShift (crcShift (crcShift (crcShift (crcShift (crcShift (c ^^^ b))))))))

/-- The CRC-8 of some bytes, in frame order from a register of 00h (R176). -/
def crc8 (bytes : List Byte) : Byte :=
  bytes.foldl crcByte 0

/-! ### Numbers, least significant byte first (R177) -/

/-- A number as `k` bytes, least significant first (R177). -/
def leBytes : Nat → Nat → List Byte
  | 0, _ => []
  | k + 1, n => BitVec.ofNat 8 n :: leBytes k (n / 256)

/-- The number some bytes hold, least significant first (R177). -/
def leNat : List Byte → Nat
  | [] => 0
  | b :: bs => b.toNat + 256 * leNat bs

/-- A field of `w` bits in the bytes that hold it (R177). -/
def fieldBytes (k : Nat) {w : Nat} (v : BitVec w) : List Byte := leBytes k v.toNat

/-- The field of `w` bits that some bytes hold (R177). -/
def field (w : Nat) (bytes : List Byte) : BitVec w := BitVec.ofNat w (leNat bytes)

/-! ### Command codes (11, COMMAND CODES) -/

/-- The code and the parameter length of a management command; none for the other steps. -/
def Instr.code : Instr → Option (Byte × Nat)
  | .writePath _ _ => some (0x10, 2)
  | .readPath => some (0x11, 0)
  | .writeAperture _ => some (0x12, 23)
  | .readAperture _ _ => some (0x13, 2)
  | .writeMask _ _ => some (0x14, 3)
  | .readMask _ => some (0x15, 1)
  | .writeStream _ => some (0x20, 10)
  | .readStream _ => some (0x21, 1)
  | .writeService _ => some (0x30, 7)
  | .readService _ => some (0x31, 1)
  | .loadKey _ _ _ => some (0x32, 18)
  | .stop _ => some (0x33, 1)
  | .start _ _ => some (0x34, 2)
  | .flip _ => some (0x35, 1)
  | .writeTimebase _ => some (0x40, 6)
  | .readTimebase => some (0x41, 0)
  | .acceptLocal => some (0x42, 0)
  | .writeJob _ => some (0x50, 26)
  | .readJob _ _ => some (0x51, 2)
  | .triggerJob _ => some (0x52, 1)
  | .readCapture => some (0x60, 0)
  | .readEvents => some (0x61, 0)
  | .clearEvents _ _ _ _ => some (0x62, 4)
  | .writeEventEnables _ _ => some (0x63, 2)
  | .ackGroup _ => some (0x64, 1)
  | .clearOverrun => some (0x65, 0)
  | .pathReset => some (0x70, 0)
  | .keyPurge => some (0x71, 0)
  | .takeRequest _ | .issueAccess _ | .memoryAnswer _ | .releaseResponse _ | .tick | .idleClose
  | .retirement _ _ | .expiry _ | .referenceQualified | .holdoverEnd | .referenceLost
  | .referenceReturned | .frameStart | .windowOpening | .windowClosing | .purgeAssertion
  | .purgeRelease | .resetAssertion | .resetRelease _ | .powerUp | .readPeriod _ | .badFrame _
  | .badCommand _ _ => none

/-- The parameter length the command code table gives for a code, none where no command has it. -/
def paramLength (code : Byte) : Option Nat :=
  match code.toNat with
  | 0x10 => some 2
  | 0x11 => some 0
  | 0x12 => some 23
  | 0x13 => some 2
  | 0x14 => some 3
  | 0x15 => some 1
  | 0x20 => some 10
  | 0x21 => some 1
  | 0x30 => some 7
  | 0x31 => some 1
  | 0x32 => some 18
  | 0x33 => some 1
  | 0x34 => some 2
  | 0x35 => some 1
  | 0x40 => some 6
  | 0x41 => some 0
  | 0x42 => some 0
  | 0x50 => some 26
  | 0x51 => some 2
  | 0x52 => some 1
  | 0x60 => some 0
  | 0x61 => some 0
  | 0x62 => some 4
  | 0x63 => some 2
  | 0x64 => some 1
  | 0x65 => some 0
  | 0x70 => some 0
  | 0x71 => some 0
  | _ => none

/-! ### Parameters, in the order the owning rules list them (R177) -/

/-- R28 with the field order of R18. -/
def apertureBytes (p : ApertureParams) : List Byte :=
  [p.entry, p.valid] ++ fieldBytes 3 p.base ++ fieldBytes 3 p.limit ++ [p.view]
    ++ fieldBytes 2 p.writeSet ++ fieldBytes 2 p.readSet ++ [p.violation] ++ fieldBytes 4 p.backing
    ++ [p.width, p.depth] ++ fieldBytes 2 p.clearRead ++ [p.unlisted]

/-- The fields of WRITE_APERTURE's parameter bytes. -/
def apertureOf (ps : List Byte) : ApertureParams where
  entry     := ps.getD 0 0
  valid     := ps.getD 1 0
  base      := field 24 ((ps.drop 2).take 3)
  limit     := field 24 ((ps.drop 5).take 3)
  view      := ps.getD 8 0
  writeSet  := field 16 ((ps.drop 9).take 2)
  readSet   := field 16 ((ps.drop 11).take 2)
  violation := ps.getD 13 0
  backing   := field 32 ((ps.drop 14).take 4)
  width     := ps.getD 18 0
  depth     := ps.getD 19 0
  clearRead := field 16 ((ps.drop 20).take 2)
  unlisted  := ps.getD 22 0

/-- R80 with the field order of R79. -/
def streamBytes (p : StreamParams) : List Byte :=
  [p.entry, p.valid] ++ fieldBytes 2 p.input ++ [p.outputPresent] ++ fieldBytes 2 p.output
    ++ [p.servPresent, p.service, p.treatment]

/-- The fields of WRITE_STREAM's parameter bytes. -/
def streamOf (ps : List Byte) : StreamParams where
  entry         := ps.getD 0 0
  valid         := ps.getD 1 0
  input         := field 16 ((ps.drop 2).take 2)
  outputPresent := ps.getD 4 0
  output        := field 16 ((ps.drop 5).take 2)
  servPresent   := ps.getD 7 0
  service       := ps.getD 8 0
  treatment     := ps.getD 9 0

/-- R110: service, P, G, E, unkeyed policy. -/
def serviceBytes (p : ServiceParams) : List Byte :=
  [p.service] ++ fieldBytes 2 p.period ++ fieldBytes 2 p.guard ++ [p.limit, p.policy]

/-- The fields of WRITE_SERVICE's parameter bytes. -/
def serviceOf (ps : List Byte) : ServiceParams where
  service := ps.getD 0 0
  period  := field 16 ((ps.drop 1).take 2)
  guard   := field 16 ((ps.drop 3).take 2)
  limit   := ps.getD 5 0
  policy  := ps.getD 6 0

/-- R137: source select, prescale, divider, H. -/
def timebaseBytes (p : TimebaseParams) : List Byte :=
  [p.select, p.prescale] ++ fieldBytes 2 p.divider ++ fieldBytes 2 p.limit

/-- The fields of WRITE_TIMEBASE's parameter bytes. -/
def timebaseOf (ps : List Byte) : TimebaseParams where
  select   := ps.getD 0 0
  prescale := ps.getD 1 0
  divider  := field 16 ((ps.drop 2).take 2)
  limit    := field 16 ((ps.drop 4).take 2)

/-- R145: slot, the configuration fields of R143 in order, B. -/
def jobBytes (p : JobParams) : List Byte :=
  [p.slot, p.enable, p.kind] ++ fieldBytes 4 p.source ++ fieldBytes 4 p.target
    ++ fieldBytes 3 p.length ++ fieldBytes 8 p.pattern ++ [p.trigger, p.triggerOf, p.windowBound, p.boundary]

/-- The fields of WRITE_JOB's parameter bytes. -/
def jobOf (ps : List Byte) : JobParams where
  slot        := ps.getD 0 0
  enable      := ps.getD 1 0
  kind        := ps.getD 2 0
  source      := field 32 ((ps.drop 3).take 4)
  target      := field 32 ((ps.drop 7).take 4)
  length      := field 24 ((ps.drop 11).take 3)
  pattern     := field 64 ((ps.drop 14).take 8)
  trigger     := ps.getD 22 0
  triggerOf   := ps.getD 23 0
  windowBound := ps.getD 24 0
  boundary    := ps.getD 25 0

/-- The sixteen bytes of a control word in the order they stand in the frame (R98, R112). -/
def wordOfKeyBytes (ps : List Byte) : ControlWord := Vector.ofFn fun i => ps.getD i 0

/-- The parameter bytes of a management command (R177); none of the other steps has any. -/
def Instr.params : Instr → List Byte
  | .writePath action limit => [action, limit]
  | .writeAperture p => apertureBytes p
  | .readAperture entry clear => [entry, clear]
  | .writeMask initiator mask => initiator :: fieldBytes 2 mask
  | .readMask initiator => [initiator]
  | .writeStream p => streamBytes p
  | .readStream entry => [entry]
  | .writeService p => serviceBytes p
  | .readService service => [service]
  | .loadKey service phase word => [service, phase] ++ word.toList
  | .stop service => [service]
  | .start service phase => [service, phase]
  | .flip service => [service]
  | .writeTimebase p => timebaseBytes p
  | .writeJob p => jobBytes p
  | .readJob slot clear => [slot, clear]
  | .triggerJob slot => [slot]
  | .clearEvents path keys jobs timebase => [path, keys, jobs, timebase]
  | .writeEventEnables group set => [group, set]
  | .ackGroup group => [group]
  | .readPath | .readTimebase | .acceptLocal | .readCapture | .readEvents | .clearOverrun
  | .pathReset | .keyPurge => []
  | .takeRequest _ | .issueAccess _ | .memoryAnswer _ | .releaseResponse _ | .tick | .idleClose
  | .retirement _ _ | .expiry _ | .referenceQualified | .holdoverEnd | .referenceLost
  | .referenceReturned | .frameStart | .windowOpening | .windowClosing | .purgeAssertion
  | .purgeRelease | .resetAssertion | .resetRelease _ | .powerUp | .readPeriod _ | .badFrame _
  | .badCommand _ _ => []

/-- The command a code and its parameter bytes name (11, COMMAND CODES); the length of the
parameters has been checked against `paramLength`. -/
def commandOf (code : Byte) (ps : List Byte) : Option Instr :=
  match code.toNat with
  | 0x10 => some (.writePath (ps.getD 0 0) (ps.getD 1 0))
  | 0x11 => some .readPath
  | 0x12 => some (.writeAperture (apertureOf ps))
  | 0x13 => some (.readAperture (ps.getD 0 0) (ps.getD 1 0))
  | 0x14 => some (.writeMask (ps.getD 0 0) (field 16 ((ps.drop 1).take 2)))
  | 0x15 => some (.readMask (ps.getD 0 0))
  | 0x20 => some (.writeStream (streamOf ps))
  | 0x21 => some (.readStream (ps.getD 0 0))
  | 0x30 => some (.writeService (serviceOf ps))
  | 0x31 => some (.readService (ps.getD 0 0))
  | 0x32 => some (.loadKey (ps.getD 0 0) (ps.getD 1 0) (wordOfKeyBytes (ps.drop 2)))
  | 0x33 => some (.stop (ps.getD 0 0))
  | 0x34 => some (.start (ps.getD 0 0) (ps.getD 1 0))
  | 0x35 => some (.flip (ps.getD 0 0))
  | 0x40 => some (.writeTimebase (timebaseOf ps))
  | 0x41 => some .readTimebase
  | 0x42 => some .acceptLocal
  | 0x50 => some (.writeJob (jobOf ps))
  | 0x51 => some (.readJob (ps.getD 0 0) (ps.getD 1 0))
  | 0x52 => some (.triggerJob (ps.getD 0 0))
  | 0x60 => some .readCapture
  | 0x61 => some .readEvents
  | 0x62 => some (.clearEvents (ps.getD 0 0) (ps.getD 1 0) (ps.getD 2 0) (ps.getD 3 0))
  | 0x63 => some (.writeEventEnables (ps.getD 0 0) (ps.getD 1 0))
  | 0x64 => some (.ackGroup (ps.getD 0 0))
  | 0x65 => some .clearOverrun
  | 0x70 => some .pathReset
  | 0x71 => some .keyPurge
  | _ => none

/-! ### Frames (R175, 11 FRAME LAYOUTS) -/

/-- A frame: a first byte, a length, that many bytes and the CRC of all of them (R175, R177). -/
def frameOf (first : Byte) (body : List Byte) : List Byte :=
  let inside := first :: BitVec.ofNat 8 body.length :: body
  inside ++ [crc8 inside]

/-- The request frame of a management command; none for a step that is no command (R175). -/
def requestFrame (i : Instr) : Option (List Byte) :=
  i.code.map fun c => frameOf c.1 i.params

/-- What a select period turns out to be at the rise of chip select (R174, R175). -/
inductive PeriodKind
  /-- No whole byte was clocked in: the period changes nothing (R174). -/
  | nothing
  /-- The first byte is 00h (R174). -/
  | read
  /-- A frame, length or CRC check failed (R175). -/
  | badFrame
  /-- A good frame whose code names no command (R175). -/
  | badCommand
  /-- A good frame of a command (R175). -/
  | command (i : Instr)
deriving DecidableEq, Repr

/-- The checks of R175 on a request period, in order. -/
def examineRequest (p : Period) : PeriodKind :=
  let n := (p.bytes.getD 1 0).toNat
  let code := p.bytes.getD 0 0
  if p.extraBits ≠ 0 ∨ p.bytes.length < 3 then .badFrame
  else if n > 45 ∨ p.bytes.length ≠ 3 + n then .badFrame
  else if p.bytes.getD (n + 2) 0 ≠ crc8 (p.bytes.take (n + 2)) then .badFrame
  else match paramLength code with
    | none => .badCommand
    | some m =>
      if n ≠ m then .badFrame
      else match commandOf code ((p.bytes.drop 2).take n) with
        | none => .badCommand
        | some i => .command i

/-- The kind of a select period, decided by its first byte (R174), and the outcome of the checks of
R175 for a request period. -/
def examine (p : Period) : PeriodKind :=
  match p.bytes with
  | [] => .nothing
  | first :: _ => if first = 0 then .read else examineRequest p

/-- No row of spec/opcode_table.json gives bits, so no word spells a command. -/
def decodeTableWord (_nbits _w : Nat) : Option Instr := none

end Sys2Proof
end

