-- ==== Sys2Proof/WellFormed.lean ====
section
/-! DEFINITION. The commands that can arise. A management command, an input event and a memory event
are well formed whatever bytes they carry (a value out of range is refused by the command itself,
R177); a BAD_FRAME or BAD_COMMAND is well formed only when its period or frame is one. -/

namespace Sys2Proof

/-- BAD_FRAME stands for a period that fails a check of R175 with outcome BAD_FRAME; BAD_COMMAND for
a good frame, code not 00h, whose code names no command (R174, R175). -/
def Instr.wf : Instr → Bool
  | .badFrame p => decide (examine p = .badFrame)
  | .badCommand code params =>
      decide (code ≠ 0) && decide (params.length ≤ 45) && (paramLength code).isNone
  | .takeRequest _ | .issueAccess _ | .memoryAnswer _ | .releaseResponse _ | .tick | .idleClose
  | .retirement _ _ | .expiry _ | .referenceQualified | .holdoverEnd | .referenceLost
  | .referenceReturned | .frameStart | .windowOpening | .windowClosing | .purgeAssertion
  | .purgeRelease | .resetAssertion | .resetRelease _ | .powerUp | .readPeriod _
  | .writePath _ _ | .readPath | .writeAperture _ | .readAperture _ _ | .writeMask _ _
  | .readMask _ | .writeStream _ | .readStream _ | .writeService _ | .readService _
  | .loadKey _ _ _ | .stop _ | .start _ _ | .flip _ | .writeTimebase _ | .readTimebase
  | .acceptLocal | .writeJob _ | .readJob _ _ | .triggerJob _ | .readCapture | .readEvents
  | .clearEvents _ _ _ _ | .writeEventEnables _ _ | .ackGroup _ | .clearOverrun | .pathReset
  | .keyPurge => true

end Sys2Proof
end

