-- ==== Sys2Proof/Machine/State.lean ====
section
/-! DEFINITION. The state of the part as plain data (INVENTORY.md, State), the reasons a step can stop,
and the state after power-on reset (R17, R34, R50, R65, R84, R96, R128, R142, R163, R173, R179,
R180). -/

namespace Sys2Proof.Machine

/-- The part never stops: the spec gives every command an effect in every state (log 21). -/
inductive Fault
deriving DecidableEq, Repr

/-- Why a command has no meaning. -/
inductive Refusal
  /-- Raised by exec for a command that is not modelled; safe. No arm raises it. -/
  | notModelled (mnemonic : String)
deriving DecidableEq, Repr

/-! ### Aperture table (R18) -/

/-- One entry of the aperture table (R18). -/
structure Aperture where
  valid      : Bool
  base       : Nat
  limit      : Nat
  view       : View
  writeSet   : InitiatorSet
  readSet    : InitiatorSet
  violation  : Violation
  backing    : Addr
  width      : Nat
  depth      : Nat
  saturation : Nat
  clearRead  : InitiatorSet
  unlisted   : ClearOrNull
deriving DecidableEq, Repr

/-- What classification copies of the view's own fields (R31). -/
inductive ViewCopy
  | raw
  | sample (backing : Addr) (width depth : Nat) (mask : BitVec 16)
  | packet (clearRead : InitiatorSet) (unlisted : ClearOrNull)
deriving DecidableEq, Repr

/-- The copy of an aperture entry a request carries from its classification (R31). -/
structure ApertureCopy where
  number : ApertureNo
  base   : Nat
  view   : ViewCopy
deriving DecidableEq, Repr

/-! ### Sample views -/

/-- A backing block: its address and stored depth, hence its length 4 × D bytes (R36, R51). -/
structure Block where
  address : Addr
  depth   : Nat
deriving DecidableEq, Repr

/-- The 32 stored values of a block (R37); a stored depth is at most 12 bits. -/
abbrev Stored := Vector (BitVec 12) 32

/-- Which part of a backing block an access reaches; a block within one line has a lower part
alone (R38). -/
inductive Half
  | lower
  | upper
deriving DecidableEq, Repr

/-- The progress of one backing read or write: accesses not yet answered, whether one was answered
ERROR, and the words read (R38, R48, R52). -/
structure BlockIo where
  left   : Nat
  failed : Bool
  lower  : List Word
  upper  : List Word
deriving DecidableEq, Repr

/-! ### Packet slots -/

/-- The values the keystream of a packet is formed from, less the block number (R98, R103). -/
structure Nonce where
  stamp      : BitVec 32
  pid        : Pid
  continuity : BitVec 4
  service    : Nat
deriving DecidableEq, Repr

/-- The disposition of a packet; SCRAMBLE with its service and key slot (R71, R72, R85). -/
inductive Disposition
  | clear
  | pass
  | scramble (service : ServiceNo) (phase : Phase)
  | null
deriving DecidableEq, Repr

/-- One open entry of the slot tracker (R85). -/
structure TrackerEntry where
  slot         : Addr
  aperture     : ApertureNo
  initiator    : Initiator
  disposition  : Disposition
  payloadStart : Option Nat
  stamp        : BitVec 32
  pid          : Pid
  continuity   : BitVec 4
  written      : BitVec 24
  lastWrite    : BitVec 32
deriving DecidableEq, Repr

/-- A key with what is needed to remove a packet's keystream (R105). -/
structure Descrambler where
  key   : ControlWord
  nonce : Nonce
  start : Nat
deriving DecidableEq, Repr

/-- How a clear read settles its header (R101). -/
inductive ClearPlan
  /-- The header is settled and a key found: from an open entry at handing, or from a header fetch. -/
  | keyed (d : Descrambler)
  /-- The header is settled and the data is returned as stored. -/
  | asStored
  /-- The header is settled from the read data when it arrives. -/
  | fromData
  /-- The header fetch has not been answered; the read is not handed. -/
  | fetching
deriving DecidableEq, Repr

/-! ### The pending list (R5) -/

/-- The state of a segment (R5). -/
inductive SegState
  | inProgress
  | done
  | refused
  | fault
deriving DecidableEq, Repr

/-- Where a segment falls (R8): a sample segment with its backing block, its first word in the sample
block and whether it is full (R36, R42); a packet segment with its slot's address and its first slot
word (R66). -/
inductive Place
  | raw
  | sample (block : Block) (firstWord : Nat) (full : Bool)
  | packet (slot : Addr) (firstWord : Nat)
deriving DecidableEq, Repr

/-- What a segment in progress waits for. -/
inductive SegWork
  /-- One access, whose answer finishes the segment. -/
  | plain
  /-- A direct backing read or write (R44, R46). -/
  | direct (io : BlockIo)
  /-- A second sample segment not yet handed (R59). -/
  | unhanded
  /-- A merge entry: parked on it or its current item (R54, R56). -/
  | merging
  /-- A clear read (R101). -/
  | clear (plan : ClearPlan)
deriving DecidableEq, Repr

/-- One segment of a request: its own part of the address range, of the data and of the enables (R8),
its state and the data read for it (R5). -/
structure Segment where
  address : Addr
  op      : Op
  place   : Place
  state   : SegState
  work    : SegWork
  data    : List Word
deriving DecidableEq, Repr

/-- What became of a request at its taking (R3, R7). -/
inductive Disposal
  | illFormed
  | refused
  | performed
deriving DecidableEq, Repr

/-- One entry of the pending list (R5). `id` names it: the number of requests taken before it. -/
structure PendingEntry where
  id       : Nat
  source   : Source
  request  : Request
  disposal : Disposal
  aperture : Option ApertureCopy
  segments : List Segment
deriving DecidableEq, Repr

/-- A segment of a taken request, by the request's name and its place, 0 or 1. -/
structure SegRef where
  id    : Nat
  index : Nat
deriving DecidableEq, Repr

/-! ### The memory port (R12, R13) -/

/-- Whom an access's answer is handed to (R13). -/
inductive Handler
  /-- A segment of a taken request: RAW, packet or a direct sample segment. -/
  | segment (ref : SegRef) (half : Half)
  /-- The header fetch of a clear read (R102). -/
  | header (ref : SegRef)
  /-- A merge entry, named by its block (R51). -/
  | merge (block : Block) (half : Half)
  /-- An access a path reset has marked for absorption (R16). -/
  | absorbed
deriving DecidableEq, Repr

/-- An access at the memory port: its record (R12) and its handler. -/
structure Access where
  record  : Request
  handler : Handler
deriving DecidableEq, Repr

/-- An access handed and not yet issued; `paired` when it was handed together with the next (R12). -/
structure Waiting where
  access : Access
  paired : Bool
deriving DecidableEq, Repr

/-! ### The merge table (R51) -/

/-- The state of a merge entry (R52). -/
inductive MergeState
  | fetching
  | held
  | writing
deriving DecidableEq, Repr

/-- One merge entry (R51), with the progress of its access in flight (R52) and the request its fetch
was made for (R14, R62). -/
structure MergeEntry where
  block    : Block
  aperture : ApertureNo
  state    : MergeState
  item     : Option SegRef
  copy     : Option Stored
  waits    : List SegRef
  claims   : List Nat
  io       : BlockIo
  fetchFor : Option Nat
deriving DecidableEq, Repr

/-! ### Stream map and services -/

/-- One stream map entry (R79). -/
structure StreamEntry where
  valid     : Bool
  input     : Pid
  output    : Option Pid
  service   : Option ServiceNo
  treatment : Treatment
deriving DecidableEq, Repr

/-- One key slot (R108). -/
structure KeySlot where
  state : KeyState
  key   : ControlWord
  users : Nat
  age   : Nat
deriving DecidableEq, Repr

/-- One service context (R107); its key-wanted indication is computed (R125). -/
structure Service where
  state     : ServiceState
  period    : Nat
  guard     : Nat
  limit     : Nat
  policy    : ClearOrNull
  counter   : Nat
  extension : Nat
  scrambled : BitVec 32
  nulled    : BitVec 32
  slotA     : KeySlot
  slotB     : KeySlot
deriving DecidableEq, Repr

/-! ### Timebase -/

/-- The timebase (R130 to R142); its source select is computed from the state (R133). -/
structure Timebase where
  state         : TimeState
  prescale      : Nat
  divider       : Nat
  limit         : Nat
  tickCount     : BitVec 32
  division      : Nat
  qualification : Nat
  countdown     : Nat
  hold          : Bool
  refPresent    : Bool
  windowOpen    : Bool
deriving DecidableEq, Repr

/-! ### Job engine -/

/-- The configuration fields of a job slot (R143). -/
structure JobConfig where
  enable      : Bool
  kind        : JobKind
  source      : Addr
  target      : Addr
  length      : Nat
  pattern     : Word
  trigger     : Trigger
  windowBound : Bool
deriving DecidableEq, Repr

/-- The outcome of a slot's last finished run (R143); the fault cause is a status and an address. -/
structure JobResult where
  status  : JobStatus
  words   : Nat
  swept   : Nat
  digest  : BitVec 32
  fault   : Option (Status × Addr)
deriving DecidableEq, Repr

/-- One job slot (R143). -/
structure JobSlot where
  config   : JobConfig
  state    : JobState
  cursor   : Nat
  digest   : BitVec 32
  swept    : Nat
  overflow : Bool
  result   : JobResult
deriving DecidableEq, Repr

/-- What the running job's request is for, with the words the engine holds between requests (R156 to
R159). -/
inductive JobPhase
  | fillWrite
  | digestRead
  | convertRead
  | convertWrite
  | sweepFirst
  | sweepSecond (first : List Word)
  | sweepOpening (unit : List Word)
  | sweepContinuation
deriving DecidableEq, Repr

/-- The running job's request: presented to the intake, and taken or not yet (R153). -/
structure JobRun where
  slot    : JobNo
  request : Request
  phase   : JobPhase
  taken   : Bool
deriving DecidableEq, Repr

/-! ### Reports -/

/-- One capture record (R164). -/
structure CaptureRecord where
  kind      : CaptureKind
  initiator : Initiator
  request   : Kind
  address   : Addr
  stamp     : BitVec 16
  aperture  : Option ApertureNo
  pid       : Option Pid
  service   : Option ServiceNo
  reason    : Option CloseReason
  jobSlot   : Option JobNo
deriving DecidableEq, Repr

/-! ### The whole part -/

/-- The state of the part. `pending` is the queue of commands that wait. -/
structure State where
  pending       : List Instr
  -- upstream port and intake
  upstream      : List Request
  delivered     : Vector (List Response) 16
  pendingList   : List PendingEntry
  taken         : Nat
  lastSource    : Source
  -- memory port
  waiting       : List Waiting
  outstanding   : List Access
  -- aperture table
  apertures     : Vector Aperture 12
  masks         : Vector (BitVec 16) 16
  unmapped      : UnmappedAction
  idleLimit     : Nat
  -- merge table
  mergeTable    : List MergeEntry
  -- stream map
  streams       : Vector StreamEntry 48
  -- slot tracker, in opening order
  tracker       : List TrackerEntry
  -- service key table
  services      : Vector Service 24
  -- timebase, and the tick under way
  time          : Timebase
  tickOpen      : Bool
  expiring      : List ServiceNo
  -- job engine
  jobs          : Vector JobSlot 6
  boundary      : Nat
  remembered    : JobNo
  run           : Option JobRun
  -- capture queue and event unit
  capture       : List CaptureRecord
  overrun       : Bool
  flags         : Vector Bool 16
  enables       : Vector Bool 16
  raised        : Vector Bool 4
  -- management port
  heldResponse  : Option (List Byte)
  readPosition  : Nat
  miso          : List Byte
  selectIgnored : Bool
  purgeHeld     : Bool
  -- reset input
  inReset       : Bool
deriving DecidableEq, Repr

/-! ### Power-on values -/

/-- An aperture entry after power-on reset (R34). -/
def Aperture.reset : Aperture :=
  ⟨false, 0, 0, .raw, 0, 0, .refuse, 0, 0, 0, 0, 0, .clear⟩

/-- A stream map entry after power-on reset (R84). -/
def StreamEntry.reset : StreamEntry := ⟨false, 0, none, none, .clear⟩

/-- A key slot after power-on reset (R128). -/
def KeySlot.reset : KeySlot := ⟨.empty, Vector.replicate 16 0, 0, 0⟩

/-- A service after power-on reset (R128). -/
def Service.reset : Service :=
  ⟨.idle, 10000, 1000, 0, .null, 0, 0, 0, 0, KeySlot.reset, KeySlot.reset⟩

/-- The timebase after power-on reset (R142), with the levels of its inputs. -/
def Timebase.reset (refPresent windowOpen : Bool) : Timebase :=
  ⟨.local, 1, 27000, 5000, 0, 0, 0, 0, false, refPresent, windowOpen⟩

/-- A result record before any run has finished (R143, R163). -/
def JobResult.reset : JobResult := ⟨.notRun, 0, 0, 0, none⟩

/-- A job slot after power-on reset (R163); the running digest register is a DESIGN CHOICE (log 17). -/
def JobSlot.reset : JobSlot :=
  ⟨⟨false, .fill, 0, 0, 1, 0, .noTrigger, false⟩, .disabled, 0, 0, 0, false, JobResult.reset⟩

/-- The part right after power-on reset, with nothing presented to it. The levels of the reference,
window and purge inputs are a DESIGN CHOICE (log 9): the spec takes them as the inputs stand. -/
def State.reset : State where
  pending       := []
  upstream      := []
  delivered     := Vector.replicate 16 []
  pendingList   := []
  taken         := 0
  lastSource    := .job
  waiting       := []
  outstanding   := []
  apertures     := Vector.replicate 12 Aperture.reset
  masks         := Vector.replicate 16 0xFFFF#16
  unmapped      := .forward
  idleLimit     := 8
  mergeTable    := []
  streams       := Vector.replicate 48 StreamEntry.reset
  tracker       := []
  services      := Vector.replicate 24 Service.reset
  time          := Timebase.reset false false
  tickOpen      := false
  expiring      := []
  jobs          := Vector.replicate 6 JobSlot.reset
  boundary      := 6
  remembered    := 5
  run           := none
  capture       := []
  overrun       := false
  flags         := Vector.replicate 16 false
  enables       := Vector.replicate 16 false
  raised        := Vector.replicate 4 false
  heldResponse  := none
  readPosition  := 0
  miso          := []
  selectIgnored := false
  purgeHeld     := false
  inReset       := false

end Sys2Proof.Machine
end

