-- ==== Sys2Proof/Machine/Operands.lean ====
section
/-! DEFINITION. The forms operands take: the bytes of a word, the words and address range of a request,
the byte codings of choices (R177), and the data fields of responses. -/

namespace Sys2Proof.Machine

/-! ### Bytes of a word (00_scope.md, BYTES AND WORDS) -/

/-- Byte `j` of a word, byte 0 least significant. -/
def byteOf (w : Word) (j : Nat) : Byte := (w >>> (8 * j)).setWidth 8

/-- The eight bytes of a word, byte 0 first. -/
def bytesOf (w : Word) : List Byte := (List.range 8).map (byteOf w)

/-- The word of some bytes, byte 0 first. -/
def wordOf (bytes : List Byte) : Word :=
  bytes.foldr (fun b acc => (acc <<< 8) ||| b.setWidth 64) 0

/-- All eight enables of a word set. -/
def allEnabled : Byte := 0xFF#8

/-! ### Requests (R1, R3) -/

/-- The number of words an operation addresses (R1). -/
def opLength : Op → Nat
  | .read n => n
  | .write ws => ws.length

/-- Whether an operation is a read or a write. -/
def opKind : Op → Kind
  | .read _ => .read
  | .write _ => .write

/-- The words an operation writes; a read writes none. -/
def opWords : Op → List WriteWord
  | .read _ => []
  | .write ws => ws

/-- The first `n` words' part of an operation (R8). -/
def opTake (n : Nat) : Op → Op
  | .read m => .read (min n m)
  | .write ws => .write (ws.take n)

/-- What is left of an operation after its first `n` words (R8). -/
def opDrop (n : Nat) : Op → Op
  | .read m => .read (m - n)
  | .write ws => .write (ws.drop n)

/-- The zero data of a response that ends REFUSED, FAULT or RESET: one zero word per unit of length of
a read, nothing for a write (R2). -/
def zeroData : Op → List Word
  | .read n => List.replicate n 0
  | .write _ => []

/-- The order a request of a source belongs to (R3). -/
def ownerOf (source : Source) (initiator : Initiator) : Owner :=
  match source with
  | .upstream => .upstream initiator
  | .job => .job

/-- A request is ill-formed: unaligned, of length 0 or over 16, out of one line, or from the upstream
port claiming initiator 15 (R3). -/
def illFormed (source : Source) (r : Request) : Bool :=
  let a := r.address.toNat
  let n := opLength r.op
  decide (a % 8 ≠ 0) || decide (n = 0) || decide (16 < n)
    || decide (a / Config.lineBytes ≠ (a + 8 * n - 1) / Config.lineBytes)
    || (decide (source = .upstream) && decide (r.initiator = Config.ownInitiator))

/-- Whether a set of initiators holds an initiator (R177). -/
def inSet (set : InitiatorSet) (i : Initiator) : Bool := set.getLsbD i.val

/-! ### Choices, coded by their position (R177) -/

/-- A yes-or-no byte. -/
def yesNo (b : Byte) : Option Bool :=
  match b.toNat with
  | 0 => some false
  | 1 => some true
  | _ => none

/-- The list of R18. -/
def viewOf (b : Byte) : Option View :=
  match b.toNat with
  | 0 => some .raw
  | 1 => some .sample
  | 2 => some .packet
  | _ => none

/-- The list of R18. -/
def violationOf (b : Byte) : Option Violation :=
  match b.toNat with
  | 0 => some .refuse
  | 1 => some .divert
  | 2 => some .note
  | _ => none

/-- The list of R18 and R107. -/
def clearOrNullOf (b : Byte) : Option ClearOrNull :=
  match b.toNat with
  | 0 => some .clear
  | 1 => some .null
  | _ => none

/-- The list of R24. -/
def unmappedOf (b : Byte) : Option UnmappedAction :=
  match b.toNat with
  | 0 => some .forward
  | 1 => some .forwardNote
  | 2 => some .refuse
  | 3 => some .divert
  | _ => none

/-- The list of R79. -/
def treatmentOf (b : Byte) : Option Treatment :=
  match b.toNat with
  | 0 => some .clear
  | 1 => some .scramble
  | 2 => some .null
  | _ => none

/-- Phase A is 0 and B is 1 (R177). -/
def phaseOf (b : Byte) : Option Phase :=
  match b.toNat with
  | 0 => some .a
  | 1 => some .b
  | _ => none

/-- The list of R143. -/
def jobKindOf (b : Byte) : Option JobKind :=
  match b.toNat with
  | 0 => some .fill
  | 1 => some .convert
  | 2 => some .sweep
  | 3 => some .digest
  | _ => none

/-- A trigger's two bytes: its kind, then its service or slot, the second zero where the kind has
neither (R177, R145; log 14). -/
def triggerOf (kind which : Byte) : Option Trigger :=
  match kind.toNat with
  | 0 => if which = 0 then some .noTrigger else none
  | 1 => if which = 0 then some .command else none
  | 2 => if which = 0 then some .frame else none
  | 3 => if h : which.toNat < 24 then some (.flip ⟨which.toNat, h⟩) else none
  | 4 => if h : which.toNat < 6 then some (.done ⟨which.toNat, h⟩) else none
  | _ => none

/-- The groups in the order of R168. -/
def groupOf (b : Byte) : Option Group :=
  match b.toNat with
  | 0 => some .path
  | 1 => some .keys
  | 2 => some .jobs
  | 3 => some .timebase
  | _ => none

/-- An aperture entry number (R28). -/
def apertureOfByte (b : Byte) : Option ApertureNo :=
  if h : b.toNat < 12 then some ⟨b.toNat, h⟩ else none

/-- An initiator number (R27). -/
def initiatorOfByte (b : Byte) : Option Initiator :=
  if h : b.toNat < 16 then some ⟨b.toNat, h⟩ else none

/-- A stream map entry number (R80). -/
def streamOfByte (b : Byte) : Option StreamNo :=
  if h : b.toNat < 48 then some ⟨b.toNat, h⟩ else none

/-- A service number (R110). -/
def serviceOfByte (b : Byte) : Option ServiceNo :=
  if h : b.toNat < 24 then some ⟨b.toNat, h⟩ else none

/-- A job slot number (R145). -/
def jobOfByte (b : Byte) : Option JobNo :=
  if h : b.toNat < 6 then some ⟨b.toNat, h⟩ else none

/-- System PIDs: 0000h to 001Fh and the null PID 1FFFh (R67). -/
def systemPid (p : Nat) : Bool := decide (p ≤ 0x1F) || decide (p = 0x1FFF)

/-- A PID a stream map entry may hold: at most 1FFFh and no system PID (R80). -/
def streamPidOf (v : BitVec 16) : Option Pid :=
  if v.toNat ≤ 0x1FFF && !systemPid v.toNat then some (BitVec.ofNat 13 v.toNat) else none

/-- The optional output PID of WRITE_STREAM: absent is coded as zero (R80, R177; log 14). -/
def outputPidOf (present : Byte) (v : BitVec 16) : Option (Option Pid) :=
  match yesNo present with
  | some true => (streamPidOf v).map some
  | some false => if v = 0 then some none else none
  | none => none

/-- The optional service of WRITE_STREAM: absent is coded as zero (R80, R177; log 14). -/
def optionalServiceOf (present b : Byte) : Option (Option ServiceNo) :=
  match yesNo present with
  | some true => (serviceOfByte b).map some
  | some false => if b = 0 then some none else none
  | none => none

/-! ### Response data (R177) -/

/-- A yes-or-no field. -/
def boolByte (b : Bool) : Byte := if b then 1 else 0

/-- A one-byte number. -/
def natByte (n : Nat) : Byte := BitVec.ofNat 8 n

/-- Position in the list of R18. -/
def viewByte : View → Byte
  | .raw => 0
  | .sample => 1
  | .packet => 2

/-- Position in the list of R18. -/
def violationByte : Violation → Byte
  | .refuse => 0
  | .divert => 1
  | .note => 2

/-- Position in the list of R18 and R107. -/
def clearOrNullByte : ClearOrNull → Byte
  | .clear => 0
  | .null => 1

/-- Position in the list of R24. -/
def unmappedByte : UnmappedAction → Byte
  | .forward => 0
  | .forwardNote => 1
  | .refuse => 2
  | .divert => 3

/-- Position in the list of R79. -/
def treatmentByte : Treatment → Byte
  | .clear => 0
  | .scramble => 1
  | .null => 2

/-- Position in the list of R107. -/
def serviceStateByte : ServiceState → Byte
  | .idle => 0
  | .running => 1
  | .starved => 2
  | .withholding => 3

/-- Position in the list of R108. -/
def keyStateByte : KeyState → Byte
  | .empty => 0
  | .ready => 1
  | .active => 2
  | .retiring => 3

/-- Position in the list of R133. -/
def timeStateByte : TimeState → Byte
  | .local => 0
  | .acquiring => 1
  | .locked => 2
  | .holdover => 3
  | .frozen => 4

/-- Position in the list of R143. -/
def jobKindByte : JobKind → Byte
  | .fill => 0
  | .convert => 1
  | .sweep => 2
  | .digest => 3

/-- A trigger's two bytes (R177). -/
def triggerBytes : Trigger → List Byte
  | .noTrigger => [0, 0]
  | .command => [1, 0]
  | .frame => [2, 0]
  | .flip s => [3, natByte s.val]
  | .done j => [4, natByte j.val]

/-- Position in the list of R143. -/
def jobStateByte : JobState → Byte
  | .disabled => 0
  | .idle => 1
  | .pending => 2
  | .running => 3
  | .suspended => 4

/-- Position in the list of R143. -/
def jobStatusByte : JobStatus → Byte
  | .notRun => 0
  | .done => 1
  | .aborted => 2
  | .faulted => 3

/-- The fault status of a result record, by its position in R143's "REFUSED or FAULT" (log 15). -/
def faultStatusByte : Status → Byte
  | .fault => 1
  | .done | .refused | .reset => 0

/-- Position in the list of R164. -/
def captureKindByte : CaptureKind → Byte
  | .illFormed => 0
  | .denied => 1
  | .noted => 2
  | .unmapped => 3
  | .malformed => 4
  | .orphan => 5
  | .abandoned => 6
  | .clearReadFailed => 7
  | .jobFault => 8
  | .memoryFault => 9

/-- Position in the list of R164 (11, CAPTURE RECORD AS RETURNED). -/
def reasonByte : CloseReason → Byte
  | .idle => 0
  | .evicted => 1
  | .reconfigured => 2
  | .purge => 3

/-- The code of a status (11, STATUS CODES). -/
def statusByte : PortStatus → Byte
  | .ok => 0x00
  | .badFrame => 0x01
  | .badCommand => 0x02
  | .badParameter => 0x03
  | .conflict => 0x04
  | .duplicate => 0x05
  | .state => 0x06
  | .noKey => 0x07
  | .activeSlot => 0x08
  | .slotBusy => 0x09
  | .purgeHeld => 0x0A
  | .busy => 0x0B
  | .empty => 0x0C

/-- An optional number preceded by its presence byte, zero when absent (R177). -/
def optionalBytes (k : Nat) : Option Nat → List Byte
  | some n => 1 :: leBytes k n
  | none => 0 :: leBytes k 0

/-- The sixteen bytes of a capture record (11, CAPTURE RECORD AS RETURNED). -/
def recordBytes (r : CaptureRecord) : List Byte :=
  [captureKindByte r.kind,
    natByte (r.initiator.val + (if r.request = .write then 16 else 0))]
    ++ fieldBytes 4 r.address ++ fieldBytes 2 r.stamp
    ++ [natByte ((if r.aperture.isSome then 1 else 0) + (if r.pid.isSome then 2 else 0)
          + (if r.service.isSome then 4 else 0)),
        natByte (r.aperture.elim 0 (·.val))]
    ++ leBytes 2 (r.pid.elim 0 (·.toNat))
    ++ [natByte (r.service.elim 0 (·.val)), r.reason.elim 0 reasonByte,
        natByte (r.jobSlot.elim 0 (·.val)), 0]

end Sys2Proof.Machine
end

