-- ==== Sys2Proof/Machine/Flags.lean ====
section
/-! DEFINITION. The event unit (R168 to R172): the sixteen cause flags and their enables, the four
groups, and the event line. -/

namespace Sys2Proof.Machine

/-- A cause's place in the list of R168. -/
def causeIndex : Cause → Fin 16
  | .captureReady => 0
  | .captureOverrun => 1
  | .memoryFault => 2
  | .saturation => 3
  | .pathResetDone => 4
  | .keyWanted => 5
  | .starved => 6
  | .withholding => 7
  | .purged => 8
  | .jobDone => 9
  | .jobFault => 10
  | .jobAborted => 11
  | .triggerOverflow => 12
  | .locked => 13
  | .refLost => 14
  | .frozen => 15

/-- A group's place in the order PATH, KEYS, JOBS, TIMEBASE (R168). -/
def groupIndex : Group → Fin 4
  | .path => 0
  | .keys => 1
  | .jobs => 2
  | .timebase => 3

/-- The causes of a group, in the order of R168. -/
def groupCauses : Group → List Cause
  | .path => [.captureReady, .captureOverrun, .memoryFault, .saturation, .pathResetDone]
  | .keys => [.keyWanted, .starved, .withholding, .purged]
  | .jobs => [.jobDone, .jobFault, .jobAborted, .triggerOverflow]
  | .timebase => [.locked, .refLost, .frozen]

/-- The group of a cause (R168). -/
def causeGroup : Cause → Group
  | .captureReady | .captureOverrun | .memoryFault | .saturation | .pathResetDone => .path
  | .keyWanted | .starved | .withholding | .purged => .keys
  | .jobDone | .jobFault | .jobAborted | .triggerOverflow => .jobs
  | .locked | .refLost | .frozen => .timebase

/-- A cause's flag. -/
def flagOf (s : State) (c : Cause) : Bool := s.flags[causeIndex c]

/-- A cause's enable. -/
def enableOf (s : State) (c : Cause) : Bool := s.enables[causeIndex c]

/-- Whether a group is raised. -/
def raisedOf (s : State) (g : Group) : Bool := s.raised[groupIndex g]

/-- A group becomes raised (R170). -/
def raiseGroup (g : Group) (s : State) : State :=
  { s with raised := s.raised.set (groupIndex g) true }

/-- A cause's event: its flag is set, enabled or not, and an enabled flag raises its group (R168,
R170). -/
def setCause (c : Cause) (s : State) : State :=
  let s := { s with flags := s.flags.set (causeIndex c) true }
  if enableOf s c then raiseGroup (causeGroup c) s else s

/-- A cause's flag is cleared; no group is lowered (R168). -/
def clearCause (c : Cause) (s : State) : State :=
  { s with flags := s.flags.set (causeIndex c) false }

/-- Some cause of the group has both its flag and its enable set (R170). -/
def groupDue (s : State) (g : Group) : Bool :=
  (groupCauses g).any fun c => flagOf s c && enableOf s c

/-- The group is raised if an enabled flag of it is set (R169, R171). -/
def raiseIfDue (g : Group) (s : State) : State :=
  if groupDue s g then raiseGroup g s else s

/-- The group is lowered, and raised again at once if it is due (R171). -/
def acknowledge (g : Group) (s : State) : State :=
  raiseIfDue g { s with raised := s.raised.set (groupIndex g) false }

/-- The event line is asserted while any group is raised (R172). -/
def eventLine (s : State) : Bool :=
  raisedOf s .path || raisedOf s .keys || raisedOf s .jobs || raisedOf s .timebase

/-- The causes of a group that a byte names, bit c the cause at position c; none where a bit names no
cause (R177). -/
def namedCauses (g : Group) (set : Byte) : Option (List Cause) :=
  if set.toNat < 2 ^ (groupCauses g).length then
    some (((groupCauses g).zipIdx.filter fun p => set.getLsbD p.2).map (·.1))
  else none

/-- The byte of some causes of a group, bit c for the cause at position c (R177). -/
def groupByte (has : Cause → Bool) (g : Group) : Byte :=
  natByte (((groupCauses g).zipIdx.map fun p => if has p.1 then 2 ^ p.2 else 0).sum)

/-- A set of causes as four bytes, one for each group (R177). -/
def causeBytes (has : Cause → Bool) : List Byte :=
  [groupByte has .path, groupByte has .keys, groupByte has .jobs, groupByte has .timebase]

/-- A set of groups as one byte (R177). -/
def raisedByte (s : State) : Byte :=
  natByte ((if raisedOf s .path then 1 else 0) + (if raisedOf s .keys then 2 else 0)
    + (if raisedOf s .jobs then 4 else 0) + (if raisedOf s .timebase then 8 else 0))

/-- The enables of one group become those of the set; the group is raised if that makes it due
(R169). -/
def setEnables (g : Group) (set : List Cause) (s : State) : State :=
  raiseIfDue g
    ((groupCauses g).foldl
      (fun s c => { s with enables := s.enables.set (causeIndex c) (set.contains c) }) s)

end Sys2Proof.Machine
end

