-- ==== Sys2Proof/Machine/Ops.lean ====
section
/-! DEFINITION. The operations the blocks share: capture records (R164 to R167), the pending list
(R5, R10), the memory port's waiting list (R12, R38), memory faults (R14) and the response frames of
the management port (R174, R177). The part takes no exception and returns from none (NOTES.md). -/

namespace Sys2Proof.Machine

/-! ### Capture queue (R164 to R167) -/

/-- The stamp: the low 16 bits of the tick count (R131, R164). -/
def stampOf (s : State) : BitVec 16 := s.time.tickCount.setWidth 16

/-- A record with no PID, service, reason or job slot (R164). -/
def plainRecord (s : State) (kind : CaptureKind) (initiator : Initiator) (request : Kind)
    (address : Addr) (aperture : Option ApertureNo) : CaptureRecord where
  kind      := kind
  initiator := initiator
  request   := request
  address   := address
  stamp     := stampOf s
  aperture  := aperture
  pid       := none
  service   := none
  reason    := none
  jobSlot   := none

/-- A record is offered to the queue: added at the tail, setting CAPTURE_READY if the queue was empty,
or lost when 48 are held, setting the overrun indication and CAPTURE_OVERRUN (R165, R167). -/
def offer (r : CaptureRecord) (s : State) : State :=
  if s.capture.length < Config.captureLimit then
    let t := { s with capture := s.capture ++ [r] }
    if s.capture.isEmpty then setCause .captureReady t else t
  else setCause .captureOverrun { s with overrun := true }

/-! ### Pending list (R5, R10) -/

/-- The pending-list entry of a name. -/
def entryOf (s : State) (id : Nat) : Option PendingEntry :=
  s.pendingList.find? fun e => e.id == id

/-- A segment of a taken request, with its entry. -/
def segmentOf (s : State) (ref : SegRef) : Option (PendingEntry × Segment) :=
  match entryOf s ref.id with
  | none => none
  | some e =>
    match e.segments[ref.index]? with
    | none => none
    | some g => some (e, g)

/-- A change of one segment. -/
def updateSegment (ref : SegRef) (f : Segment → Segment) (s : State) : State :=
  { s with pendingList := s.pendingList.map fun e =>
      if e.id = ref.id then { e with segments := e.segments.modify ref.index f } else e }

/-- What a segment now waits for. -/
def setWork (ref : SegRef) (w : SegWork) (s : State) : State :=
  updateSegment ref (fun g => { g with work := w }) s

/-- A segment finishes with a state and the data read for it (R10). -/
def finishSegment (ref : SegRef) (st : SegState) (data : List Word) (s : State) : State :=
  updateSegment ref (fun g => { g with state := st, data := data }) s

/-- The worse of two states of finished segments, FAULT before REFUSED before DONE (R10). -/
def worseState : SegState → SegState → SegState
  | .inProgress, _ => .inProgress
  | _, .inProgress => .inProgress
  | .fault, _ => .fault
  | _, .fault => .fault
  | .refused, _ => .refused
  | _, .refused => .refused
  | .done, .done => .done

/-- The status of an answerable entry, none while a segment is in progress (R3, R7, R10). -/
def entryStatus (e : PendingEntry) : Option Status :=
  match e.disposal with
  | .illFormed | .refused => some .refused
  | .performed =>
    match (e.segments.map (·.state)).foldl worseState .done with
    | .inProgress => none
    | .done => some .done
    | .refused => some .refused
    | .fault => some .fault

/-- The data of an entry's response: nothing for a write or an ill-formed request, the words of the
segments joined for a read that ends DONE, zero words otherwise (R2, R10). -/
def entryData (e : PendingEntry) (st : Status) : List Word :=
  match e.disposal, e.request.op, st with
  | .illFormed, _, _ => []
  | _, .write _, _ => []
  | _, .read _, .done => (e.segments.map (·.data)).flatten
  | _, .read n, _ => List.replicate n 0

/-- The response formed from an entry (R2, R11). -/
def responseOf (e : PendingEntry) (st : Status) : Response :=
  ⟨e.request.initiator, e.request.tag, st, entryData e st⟩

/-- The order an entry belongs to (R3, R11). -/
def entryOwner (e : PendingEntry) : Owner := ownerOf e.source e.request.initiator

/-- The request is on a wait list (R9, R54). -/
def parked (s : State) (id : Nat) : Bool :=
  s.mergeTable.any fun m => m.waits.any fun r => r.id == id

/-- The entries of the pending list that are parked (R54). -/
def parkedCount (s : State) : Nat := (s.pendingList.filter fun e => parked s e.id).length

/-- The order has a parked request (R4, R9). -/
def ownerParked (s : State) (o : Owner) : Bool :=
  s.pendingList.any fun e => decide (entryOwner e = o) && parked s e.id

/-! ### Memory port (R12, R38) -/

/-- An access is handed to the memory port, behind those already waiting (R12). -/
def handAccess (a : Access) (s : State) : State :=
  { s with waiting := s.waiting ++ [⟨a, false⟩] }

/-- The record of an access of some words made for a request: its initiator and tag (R12). -/
def accessFor (r : Request) (address : Addr) (op : Op) : Request := ⟨r.initiator, r.tag, op, address⟩

/-- The length of a backing block in words, 4 × D ÷ 8 (R36, R38). -/
def blockWords (b : Block) : Nat := b.depth / 2

/-- The words of a backing block that lie in the line it starts in (R38). -/
def lowerWords (b : Block) : Nat :=
  min (blockWords b) ((Config.lineBytes - b.address.toNat % Config.lineBytes) / 8)

/-- A backing block runs across a line boundary (R38). -/
def blockSplit (b : Block) : Bool :=
  decide (Config.lineBytes < b.address.toNat % Config.lineBytes + 4 * b.depth)

/-- A backing access of a whole block is handed: one access, or two handed together when the block is
split (R38). `op n k` is the operation on the `k` words from word `n` of the block. -/
def handBlock (r : Request) (b : Block) (op : Nat → Nat → Op) (handler : Half → Handler) (s : State) :
    State :=
  let n := lowerWords b
  if blockSplit b then
    let upper := b.address + BitVec.ofNat 32 (8 * n)
    { s with waiting := s.waiting ++
        [⟨⟨accessFor r b.address (op 0 n), handler .lower⟩, true⟩,
         ⟨⟨accessFor r upper (op n (blockWords b - n)), handler .upper⟩, false⟩] }
  else handAccess ⟨accessFor r b.address (op 0 (blockWords b)), handler .lower⟩ s

/-- The backing read of a whole block (R38). -/
def handBlockRead (r : Request) (b : Block) (handler : Half → Handler) (s : State) : State :=
  handBlock r b (fun _ k => .read k) handler s

/-- The backing write of a whole block, every byte enabled (R38). -/
def handBlockWrite (r : Request) (b : Block) (words : List Word) (handler : Half → Handler)
    (s : State) : State :=
  handBlock r b (fun n k => .write (((words.drop n).take k).map fun w => ⟨w, allEnabled⟩)) handler s

/-- A backing access of a block just handed (R38). -/
def freshIo (b : Block) : BlockIo := ⟨if blockSplit b then 2 else 1, false, [], []⟩

/-- One access of a backing access has been answered; a read's words are kept for its half (R38). -/
def ioAnswered (io : BlockIo) (half : Half) (op : Op) (answer : Answer) : BlockIo :=
  match answer, half with
  | .error, _ => { io with left := io.left - 1, failed := true }
  | .okay data, .lower => { io with left := io.left - 1, lower := data.toList.take (opLength op) }
  | .okay data, .upper => { io with left := io.left - 1, upper := data.toList.take (opLength op) }

/-- The words of a backing read's accesses joined in ascending address order (R38). -/
def ioWords (io : BlockIo) : List Word := io.lower ++ io.upper

/-! ### Memory faults (R14) -/

/-- An ERROR answer to an access made for a request: the record MEMORY_FAULT and the cause (R14). -/
def memoryFault (initiator : Initiator) (aperture : Option ApertureNo) (access : Request) (s : State) :
    State :=
  setCause .memoryFault
    (offer (plainRecord s .memoryFault initiator (opKind access.op) access.address aperture) s)

/-- The aperture number of an entry, when it has one (R14). -/
def entryAperture (e : PendingEntry) : Option ApertureNo := e.aperture.map (·.number)

/-- `memoryFault` for the request of an entry (R14). -/
def entryFault (e : PendingEntry) (access : Request) (s : State) : State :=
  memoryFault e.request.initiator (entryAperture e) access s

/-! ### Management port (R174 to R177) -/

/-- What a command answers: a status, its data, and the state it leaves. -/
structure Reply where
  status : PortStatus
  data   : List Byte
  state  : State

/-- A refusal changes nothing and carries no data (R175, R177). -/
def refuse (st : PortStatus) (s : State) : Reply := ⟨st, [], s⟩

/-- A command carried out with no data. -/
def done (s : State) : Reply := ⟨.ok, [], s⟩

/-- A response frame: status, length, data and CRC (R177). -/
def responseFrame (st : PortStatus) (data : List Byte) : List Byte := frameOf (statusByte st) data

/-- The first byte clocked out in a select period: 5Ah when a response is held, else 00h (R174). -/
def firstOut (s : State) : Byte := if s.heldResponse.isSome then 0x5A else 0x00

/-- A request period of `n` bytes ends: its first byte out and then FFh, the held response discarded
(R174), and the reply's response frame held in its place (R175). -/
def answerPeriod (n : Nat) (out : Byte) (r : Reply) : State :=
  { r.state with
    heldResponse := some (responseFrame r.status r.data)
    readPosition := 0
    miso         := out :: List.replicate (n - 1) 0xFF }

end Sys2Proof.Machine
end

