-- ==== Sys2Proof/Machine/Samples.lean ====
section
/-! DEFINITION. What the sample packer computes (R35 to R46): lanes, depth reduction and expansion,
packing, and the merge of new data into old. -/

namespace Sys2Proof.Machine

/-! ### Lanes (R35) -/

/-- Lane `i` of some words: lane i mod 4 of word i div 4 (R35). -/
def laneOf (words : List Word) (i : Nat) : BitVec 16 :=
  ((words.getD (i / 4) 0) >>> (16 * (i % 4))).setWidth 16

/-- The word of four lanes (R35). -/
def wordOfLanes (l0 l1 l2 l3 : BitVec 16) : Word := l3 ++ l2 ++ l1 ++ l0

/-! ### Depth reduction and expansion (R39, R41) -/

/-- A lane reduced to its stored value, and whether it is saturated (R39). -/
def reduceLane (width depth : Nat) (lane : BitVec 16) : BitVec 12 × Bool :=
  let v := lane.toNat % 2 ^ width
  if width ≤ depth then (BitVec.ofNat 12 v, false)
  else
    let k := width - depth
    let r := (v + 2 ^ (k - 1)) / 2 ^ k
    if 2 ^ depth - 1 < r then (BitVec.ofNat 12 (2 ^ depth - 1), true) else (BitVec.ofNat 12 r, false)

/-- A stored value expanded to a lane: s × 2^(W − D) (R41). -/
def expandLane (width depth : Nat) (stored : BitVec 12) : BitVec 16 :=
  BitVec.ofNat 16 (stored.toNat * 2 ^ (width - depth))

/-! ### Packing (R37) -/

/-- The block as one number: the stored value of lane i at block bits D × i to D × i + D − 1 (R37). -/
def packNat (depth : Nat) (stored : Stored) : Nat :=
  (stored.toList.map fun v => v.toNat % 2 ^ depth).foldr (fun v acc => v + 2 ^ depth * acc) 0

/-- The words of a packed block: block bit m is bit m mod 64 of word m div 64 (R37). -/
def packWords (depth : Nat) (stored : Stored) : List Word :=
  let n := packNat depth stored
  (List.range (depth / 2)).map fun j => BitVec.ofNat 64 (n >>> (64 * j))

/-- Some words as one number, word 0 least significant (R37). -/
def wordsNat (words : List Word) : Nat :=
  words.foldr (fun w acc => w.toNat + 2 ^ 64 * acc) 0

/-- The 32 stored values of a packed block (R37). -/
def unpackWords (depth : Nat) (words : List Word) : Stored :=
  let n := wordsNat words
  Vector.ofFn fun i => BitVec.ofNat 12 ((n >>> (depth * i.val)) % 2 ^ depth)

/-! ### Forming stored values (R44, R45) -/

/-- A block's stored values with how many lanes were saturated in forming them (R40). -/
structure Formed where
  stored    : Stored
  saturated : Nat
deriving DecidableEq, Repr

/-- How many of 32 lanes are saturated. -/
def countLanes (saturated : Fin 32 → Bool) : Nat := ((List.finRange 32).filter saturated).length

/-- A full segment's 32 lanes reduced (R44, R56). -/
def formFull (width depth : Nat) (words : List Word) : Formed where
  stored    := Vector.ofFn fun i => (reduceLane width depth (laneOf words i.val)).1
  saturated := countLanes fun i => (reduceLane width depth (laneOf words i.val)).2

/-- The lane bits of lane `l` of a word whose bytes are enabled (R35, R45). -/
def enabledBits (enables : Byte) (l : Nat) : BitVec 16 :=
  (if enables.getLsbD (2 * l) then 0x00FF#16 else 0) ||| (if enables.getLsbD (2 * l + 1) then 0xFF00#16 else 0)

/-- The enabled bits of lane `i` of a block in a segment that starts at word `first`; none outside
the segment (R45). -/
def segmentBits (first : Nat) (words : List WriteWord) (i : Nat) : BitVec 16 :=
  if first ≤ i / 4 ∧ i / 4 < first + words.length then
    enabledBits (words.getD (i / 4 - first) ⟨0, 0⟩).enables (i % 4)
  else 0

/-- The segment's data at lane `i` of the block. -/
def segmentLane (first : Nat) (words : List WriteWord) (i : Nat) : BitVec 16 :=
  laneOf (words.map (·.data)) (i - 4 * first)

/-- One lane of a merge: an untouched lane keeps its stored value; a touched lane takes each bit that
is enabled and unmasked from the data and every other bit from the expanded old value, and is reduced
(R45). -/
def mergeLane (width depth : Nat) (mask : BitVec 16) (first : Nat) (words : List WriteWord)
    (old : Stored) (i : Fin 32) : BitVec 12 × Bool :=
  let bits := segmentBits first words i.val
  if bits = 0 then (old[i], false)
  else
    let take := bits &&& mask
    reduceLane width depth
      ((segmentLane first words i.val &&& take) ||| (expandLane width depth old[i] &&& ~~~take))

/-- The merge of a segment into a block's old stored values (R45). -/
def formMerge (width depth : Nat) (mask : BitVec 16) (first : Nat) (words : List WriteWord)
    (old : Stored) : Formed where
  stored    := Vector.ofFn fun i => (mergeLane width depth mask first words old i).1
  saturated := countLanes fun i => (mergeLane width depth mask first words old i).2

/-- The words from word `first` of a block, expanded (R46, R56). -/
def expandWords (width depth : Nat) (stored : Stored) (first n : Nat) : List Word :=
  let lane := fun k => expandLane width depth (stored.toList.getD k 0)
  (List.range n).map fun j =>
    let k := 4 * (first + j)
    wordOfLanes (lane k) (lane (k + 1)) (lane (k + 2)) (lane (k + 3))

/-- A write segment is full: 8 words, every byte enabled, the mask all ones (R42). -/
def fullSegment (mask : BitVec 16) (words : List WriteWord) : Bool :=
  decide (words.length = 8) && words.all (fun w => w.enables == allEnabled) && mask == 0xFFFF#16

/-- Saturated lanes are added to the count of the aperture entry number a request was classified into,
and SATURATION is set when the count leaves 0 (R33, R40). -/
def addSaturated (number : ApertureNo) (n : Nat) (s : State) : State :=
  let a := s.apertures[number]
  let b := { a with saturation := min Config.saturationLimit (a.saturation + n) }
  let t := { s with apertures := s.apertures.set number b }
  if a.saturation = 0 ∧ 0 < n then setCause .saturation t else t

/-- The sample parameters a request carries from its classification (R31). -/
structure SampleCopy where
  number : ApertureNo
  width  : Nat
  depth  : Nat
  mask   : BitVec 16
deriving DecidableEq, Repr

/-- The sample parameters of an entry, when it was classified into a sample view (R31). -/
def sampleCopy (e : PendingEntry) : Option SampleCopy :=
  match e.aperture with
  | some ⟨number, _, .sample _ width depth mask⟩ => some ⟨number, width, depth, mask⟩
  | some ⟨_, _, .raw⟩ | some ⟨_, _, .packet _ _⟩ | none => none

end Sys2Proof.Machine
end

