-- ==== Sys2Proof/Machine/Merge.lean ====
section
/-! DEFINITION. The merge table (R51 to R65) and the sample packer's handing of segments (R43, R44,
R46, R59, R60). -/

namespace Sys2Proof.Machine

/-- The entry a block meets (R51). -/
def mergeOf (s : State) (b : Block) : Option MergeEntry := s.mergeTable.find? fun m => m.block == b

/-- An entry's new contents. -/
def putMerge (e : MergeEntry) (s : State) : State :=
  { s with mergeTable := s.mergeTable.map fun m => if m.block = e.block then e else m }

/-- An entry is freed (R58). -/
def freeMerge (b : Block) (s : State) : State :=
  { s with mergeTable := s.mergeTable.filter fun m => m.block != b }

/-- A new entry in FETCHING (R53, R59). -/
def newMerge (b : Block) (number : ApertureNo) (item : Option SegRef) (claims : List Nat)
    (fetchFor : Nat) : MergeEntry :=
  ⟨b, number, .fetching, item, none, [], claims, freshIo b, some fetchFor⟩

/-- An entry hands the fetch of its block for a request and is FETCHING (R53, R58). -/
def fetchMerge (e : MergeEntry) (id : Nat) (s : State) : State :=
  let t := putMerge { e with state := .fetching, copy := none, io := freshIo e.block, fetchFor := some id } s
  match entryOf s id with
  | none => t
  | some p => handBlockRead p.request e.block (.merge e.block) t

/-- An entry replaces its held copy, hands the write of the whole block and is WRITING (R56). -/
def writeMerge (e : MergeEntry) (p : PendingEntry) (stored : Stored) (s : State) : State :=
  handBlockWrite p.request e.block (packWords e.block.depth stored) (.merge e.block)
    (putMerge { e with state := .writing, copy := some stored, io := freshIo e.block } s)

/-- An entry carries out its current item (R56), or, with no valid held copy, does what the item
needs: a full write writes its own data, a read or partial write fetches (R58). -/
def carryOut (e : MergeEntry) (ref : SegRef) (s : State) : State :=
  match segmentOf s ref with
  | none => putMerge { e with item := none } s
  | some (p, g) =>
    match sampleCopy p, g.place with
    | some c, .sample _ first full =>
      match g.op, full, e.copy with
      | .read n, _, some held =>
        finishSegment ref .done (expandWords c.width e.block.depth held first n)
          (putMerge { e with state := .held, item := none } s)
      | .read _, _, none => fetchMerge e ref.id s
      | .write ws, true, _ =>
        let f := formFull c.width e.block.depth (ws.map (·.data))
        writeMerge e p f.stored (addSaturated c.number f.saturated s)
      | .write ws, false, some held =>
        let f := formMerge c.width e.block.depth c.mask first ws held
        writeMerge e p f.stored (addSaturated c.number f.saturated s)
      | .write _, false, none => fetchMerge e ref.id s
    | _, _ => putMerge { e with item := none } s

/-! ### Handing a sample segment (R43, R44, R46, R53, R54) -/

/-- A segment parks at the tail of an entry's wait list (R54). -/
def park (e : MergeEntry) (ref : SegRef) (s : State) : State :=
  setWork ref .merging (putMerge { e with waits := e.waits ++ [ref] } s)

/-- A partial write segment makes an entry with itself as current item (R53). -/
def makeEntry (p : PendingEntry) (b : Block) (number : ApertureNo) (ref : SegRef) (s : State) : State :=
  handBlockRead p.request b (.merge b)
    (setWork ref .merging
      { s with mergeTable := s.mergeTable ++ [newMerge b number (some ref) [] ref.id] })

/-- A full write segment is packed and written directly (R44). -/
def directWrite (p : PendingEntry) (c : SampleCopy) (b : Block) (ref : SegRef) (words : List WriteWord)
    (s : State) : State :=
  let f := formFull c.width c.depth (words.map (·.data))
  handBlockWrite p.request b (packWords c.depth f.stored) (.segment ref)
    (setWork ref (.direct (freshIo b)) (addSaturated c.number f.saturated s))

/-- A read segment reads the whole backing block directly (R46). -/
def directRead (p : PendingEntry) (b : Block) (ref : SegRef) (s : State) : State :=
  handBlockRead p.request b (.segment ref) (setWork ref (.direct (freshIo b)) s)

/-- A sample segment handed to the sample packer goes one of the ways of R43 and R46, by the merge
table as it stands. -/
def handSample (ref : SegRef) (s : State) : State :=
  match segmentOf s ref with
  | none => s
  | some (p, g) =>
    match sampleCopy p, g.place with
    | some c, .sample b _ full =>
      match mergeOf s b, g.op, full with
      | some e, _, _ => park e ref s
      | none, .read _, _ => directRead p b ref s
      | none, .write ws, true => directWrite p c b ref ws s
      | none, .write _, false => makeEntry p b c.number ref s
    | _, _ => s

/-- The entry whose claim list holds a request (R59). -/
def claimOf (s : State) (id : Nat) : Option MergeEntry :=
  s.mergeTable.find? fun m => m.claims.contains id

/-- The second segment of a request that leaves its first block's wait list is handed: to the entry
that holds its claim, else by R43 (R60). A segment a failed claim fetch has finished is not. -/
def handSecond (ref : SegRef) (s : State) : State :=
  let second : SegRef := ⟨ref.id, 1⟩
  match ref.index, segmentOf s second with
  | 0, some (_, g) =>
    if g.work = .unhanded ∧ g.state = .inProgress then
      match claimOf s ref.id with
      | some e => park { e with claims := e.claims.erase ref.id } second s
      | none => handSample second s
    else s
  | _, _ => s

/-! ### Turning to the wait list (R58) -/

/-- A HELD entry with no current item rests while its wait list is empty, its claim list is not and
its held copy is valid; otherwise it has something to do (R52, R58). -/
def mergeReady (e : MergeEntry) : Bool :=
  decide (e.state = .held) && e.item.isNone && !(e.waits.isEmpty && !e.claims.isEmpty && e.copy.isSome)

/-- An entry turns to its wait list: it takes the head, and the request's second segment is handed; or
it is freed; or it fetches for the first claim (R58, R60). -/
def mergeTurn (e : MergeEntry) (s : State) : State :=
  match e.waits, e.claims with
  | ref :: rest, _ => handSecond ref (carryOut { e with waits := rest, item := some ref } ref s)
  | [], [] => freeMerge e.block s
  | [], id :: _ => fetchMerge e id s

/-- The entries act until each waits, rests or is freed (R58). Each turn takes a request from a wait
list, frees an entry or starts a fetch, so the fuel of `mergeRun` is never short. -/
def mergeSettle : Nat → State → State
  | 0, s => s
  | n + 1, s =>
    match s.mergeTable.find? mergeReady with
    | none => s
    | some e => mergeSettle n (mergeTurn e s)

/-- All that follows in the merge table within one event (R54, R55, R57, R58). -/
def mergeRun (s : State) : State :=
  mergeSettle (2 * s.pendingList.length + s.mergeTable.length + 1) s

/-! ### A request's sample segments at its taking (R59) -/

/-- Block n + 1 of a request that parks on block n: the request is added to the claim list of the
entry that serves the block, or, for a partial write, a new entry is made with the request as its only
claim (R59). -/
def claimSecond (p : PendingEntry) (number : ApertureNo) (g : Segment) (s : State) : State :=
  match g.place with
  | .sample b _ full =>
    match mergeOf s b, g.op, full with
    | some e, _, _ => putMerge { e with claims := e.claims ++ [p.id] } s
    | none, .write _, false =>
      handBlockRead p.request b (.merge b)
        { s with mergeTable := s.mergeTable ++ [newMerge b number none [p.id] p.id] }
    | none, _, _ => s
  | .raw | .packet _ _ => s

/-- The sample segments of a request are handed when it is taken (R43, R59). Where block n's entry rests
in HELD and takes the parked segment at once, the claim fetch of block n + 1 is handed first and the
access of that item after it: the model's choice, since R54 and R59 do not order them (log 12). -/
def handSamples (p : PendingEntry) (s : State) : State :=
  let first : SegRef := ⟨p.id, 0⟩
  let second : SegRef := ⟨p.id, 1⟩
  match p.segments, sampleCopy p with
  | [g0, g1], some c =>
    match g0.place with
    | .sample b _ _ =>
      match mergeOf s b with
      | some e => mergeRun (claimSecond p c.number g1 (park e first (setWork second .unhanded s)))
      | none => mergeRun (handSample second (handSample first s))
    | .raw | .packet _ _ => s
  | _, _ => mergeRun (handSample first s)

/-! ### Answers to backing accesses (R48, R55, R57, R62, R63) -/

/-- An answer to a direct backing access: the segment finishes when every access of the block has been
answered (R46, R48). -/
def answerDirect (p : PendingEntry) (g : Segment) (ref : SegRef) (io : BlockIo) (half : Half)
    (access : Request) (answer : Answer) (s : State) : State :=
  let io := ioAnswered io half access.op answer
  let s := if answer = .error then entryFault p access s else s
  if io.left = 0 then
    match io.failed, g.op, g.place, sampleCopy p with
    | true, _, _, _ => finishSegment ref .fault [] s
    | false, .read n, .sample _ first _, some c =>
      finishSegment ref .done (expandWords c.width c.depth (unpackWords c.depth (ioWords io)) first n) s
    | false, _, _, _ => finishSegment ref .done [] s
  else setWork ref (.direct io) s

/-- The request a merge entry's access serves: the current item's, or the first of the claim list, or,
when that is empty, the request the fetch was made for (R14; log 11). -/
def servedBy (e : MergeEntry) : Option Nat :=
  match e.item, e.claims with
  | some ref, _ => some ref.id
  | none, id :: _ => some id
  | none, [] => e.fetchFor

/-- A fetch has failed: the item's segment finishes FAULT, or the claimed segment of the first
request of the claim list does and leaves that list (R62). When the claim list has become empty, since
the claimant has moved to this entry's wait list, the claimed segment the fetch was made for finishes
FAULT and leaves the wait list: the model's choice (log 11). -/
def fetchFailed (e : MergeEntry) (s : State) : State :=
  match e.item, e.claims with
  | some ref, _ =>
    finishSegment ref .fault [] (putMerge { e with state := .held, item := none, copy := none } s)
  | none, id :: rest =>
    finishSegment ⟨id, 1⟩ .fault [] (putMerge { e with state := .held, claims := rest, copy := none } s)
  | none, [] =>
    match e.fetchFor with
    | some id =>
      finishSegment ⟨id, 1⟩ .fault []
        (putMerge { e with state := .held, copy := none, waits := e.waits.erase ⟨id, 1⟩ } s)
    | none => putMerge { e with state := .held, copy := none } s

/-- Every access of an entry's fetch or write has been answered (R55, R57, R62, R63). -/
def completeMerge (e : MergeEntry) (s : State) : State :=
  match e.state, e.io.failed, e.item with
  | .fetching, true, _ => fetchFailed e s
  | .fetching, false, some ref =>
    carryOut { e with state := .held, copy := some (unpackWords e.block.depth (ioWords e.io)) } ref s
  | .fetching, false, none =>
    putMerge { e with state := .held, copy := some (unpackWords e.block.depth (ioWords e.io)) } s
  | .writing, failed, some ref =>
    finishSegment ref (if failed then .fault else .done) []
      (putMerge { e with state := .held, item := none, copy := if failed then none else e.copy } s)
  | .writing, _, none => putMerge { e with state := .held } s
  | .held, _, _ => s

/-- An answer to an access of a merge entry (R55, R57, R62, R63). -/
def answerMerge (e : MergeEntry) (half : Half) (access : Request) (answer : Answer) (s : State) :
    State :=
  let e' := { e with io := ioAnswered e.io half access.op answer }
  let s := match answer, (servedBy e).bind (entryOf s) with
    | .error, some p => entryFault p access s
    | _, _ => s
  if e'.io.left = 0 then mergeRun (completeMerge e' s) else putMerge e' s

end Sys2Proof.Machine
end

