-- ==== Sys2Proof/Machine/Cipher.lean ====
section
/-! DEFINITION. The cipher core (R98): the AES-128 round function in counter mode. The manual names
the cipher and gives one worked block; its steps are those of the published standard (PRESUMED,
log 18). A block and a key are 16 bytes, byte 0 first, held as a list. -/

namespace Sys2Proof.Machine

/-- The substitution of AES, row by row of the high half byte. -/
def sboxTable : List Byte :=
  [0x63, 0x7C, 0x77, 0x7B, 0xF2, 0x6B, 0x6F, 0xC5, 0x30, 0x01, 0x67, 0x2B, 0xFE, 0xD7, 0xAB, 0x76] ++
  [0xCA, 0x82, 0xC9, 0x7D, 0xFA, 0x59, 0x47, 0xF0, 0xAD, 0xD4, 0xA2, 0xAF, 0x9C, 0xA4, 0x72, 0xC0] ++
  [0xB7, 0xFD, 0x93, 0x26, 0x36, 0x3F, 0xF7, 0xCC, 0x34, 0xA5, 0xE5, 0xF1, 0x71, 0xD8, 0x31, 0x15] ++
  [0x04, 0xC7, 0x23, 0xC3, 0x18, 0x96, 0x05, 0x9A, 0x07, 0x12, 0x80, 0xE2, 0xEB, 0x27, 0xB2, 0x75] ++
  [0x09, 0x83, 0x2C, 0x1A, 0x1B, 0x6E, 0x5A, 0xA0, 0x52, 0x3B, 0xD6, 0xB3, 0x29, 0xE3, 0x2F, 0x84] ++
  [0x53, 0xD1, 0x00, 0xED, 0x20, 0xFC, 0xB1, 0x5B, 0x6A, 0xCB, 0xBE, 0x39, 0x4A, 0x4C, 0x58, 0xCF] ++
  [0xD0, 0xEF, 0xAA, 0xFB, 0x43, 0x4D, 0x33, 0x85, 0x45, 0xF9, 0x02, 0x7F, 0x50, 0x3C, 0x9F, 0xA8] ++
  [0x51, 0xA3, 0x40, 0x8F, 0x92, 0x9D, 0x38, 0xF5, 0xBC, 0xB6, 0xDA, 0x21, 0x10, 0xFF, 0xF3, 0xD2] ++
  [0xCD, 0x0C, 0x13, 0xEC, 0x5F, 0x97, 0x44, 0x17, 0xC4, 0xA7, 0x7E, 0x3D, 0x64, 0x5D, 0x19, 0x73] ++
  [0x60, 0x81, 0x4F, 0xDC, 0x22, 0x2A, 0x90, 0x88, 0x46, 0xEE, 0xB8, 0x14, 0xDE, 0x5E, 0x0B, 0xDB] ++
  [0xE0, 0x32, 0x3A, 0x0A, 0x49, 0x06, 0x24, 0x5C, 0xC2, 0xD3, 0xAC, 0x62, 0x91, 0x95, 0xE4, 0x79] ++
  [0xE7, 0xC8, 0x37, 0x6D, 0x8D, 0xD5, 0x4E, 0xA9, 0x6C, 0x56, 0xF4, 0xEA, 0x65, 0x7A, 0xAE, 0x08] ++
  [0xBA, 0x78, 0x25, 0x2E, 0x1C, 0xA6, 0xB4, 0xC6, 0xE8, 0xDD, 0x74, 0x1F, 0x4B, 0xBD, 0x8B, 0x8A] ++
  [0x70, 0x3E, 0xB5, 0x66, 0x48, 0x03, 0xF6, 0x0E, 0x61, 0x35, 0x57, 0xB9, 0x86, 0xC1, 0x1D, 0x9E] ++
  [0xE1, 0xF8, 0x98, 0x11, 0x69, 0xD9, 0x8E, 0x94, 0x9B, 0x1E, 0x87, 0xE9, 0xCE, 0x55, 0x28, 0xDF] ++
  [0x8C, 0xA1, 0x89, 0x0D, 0xBF, 0xE6, 0x42, 0x68, 0x41, 0x99, 0x2D, 0x0F, 0xB0, 0x54, 0xBB, 0x16]

/-- The substitution of one byte. -/
def sbox (b : Byte) : Byte := sboxTable.getD b.toNat 0

/-- Exclusive-or of two lists of bytes, place by place. -/
def xorBytes (xs ys : List Byte) : List Byte := xs.zipWith (· ^^^ ·) ys

/-- Doubling in the field of AES. -/
def double (b : Byte) : Byte := if b.getLsbD 7 then (b <<< 1) ^^^ 0x1B#8 else b <<< 1

/-- One column of a block mixed. -/
def mixColumn (a b c d : Byte) : List Byte :=
  let all := a ^^^ b ^^^ c ^^^ d
  [a ^^^ all ^^^ double (a ^^^ b), b ^^^ all ^^^ double (b ^^^ c),
   c ^^^ all ^^^ double (c ^^^ d), d ^^^ all ^^^ double (d ^^^ a)]

/-- The four columns of a block mixed. -/
def mixColumns : List Byte → List Byte
  | a :: b :: c :: d :: rest => mixColumn a b c d ++ mixColumns rest
  | short => short

/-- The rows of a block rotated: row r, the bytes at places r, r + 4, r + 8, r + 12, by r places. -/
def shiftRows : List Byte → List Byte
  | [a0, b0, c0, d0, a1, b1, c1, d1, a2, b2, c2, d2, a3, b3, c3, d3] =>
    [a0, b1, c2, d3, a1, b2, c3, d0, a2, b3, c0, d1, a3, b0, c1, d2]
  | other => other

/-- The round key that follows a round key, under a round constant. -/
def nextKey (constant : Byte) : List Byte → List Byte
  | [k0, k1, k2, k3, k4, k5, k6, k7, k8, k9, k10, k11, k12, k13, k14, k15] =>
    let w0 := xorBytes [k0, k1, k2, k3] [sbox k13 ^^^ constant, sbox k14, sbox k15, sbox k12]
    let w1 := xorBytes [k4, k5, k6, k7] w0
    let w2 := xorBytes [k8, k9, k10, k11] w1
    let w3 := xorBytes [k12, k13, k14, k15] w2
    w0 ++ w1 ++ w2 ++ w3
  | other => other

/-- The rounds of the cipher, one for each round constant, the last without mixing. -/
def cipherRounds : List Byte → List Byte → List Byte → List Byte
  | [], _, block => block
  | [constant], key, block => xorBytes (shiftRows (block.map sbox)) (nextKey constant key)
  | constant :: rest, key, block =>
    let next := nextKey constant key
    cipherRounds rest next (xorBytes (mixColumns (shiftRows (block.map sbox))) next)

/-- The round constants of AES-128. -/
def roundConstants : List Byte := [0x01, 0x02, 0x04, 0x08, 0x10, 0x20, 0x40, 0x80, 0x1B, 0x36]

/-- AES-128 encryption of a block under a key (R98). -/
def aes128 (key block : List Byte) : List Byte := cipherRounds roundConstants key (xorBytes block key)

/-- The counter block of a packet's block number (R98). -/
def counterBlock (n : Nonce) (number : Nat) : List Byte :=
  leBytes 4 n.stamp.toNat
    ++ [natByte (n.pid.toNat / 256), natByte n.pid.toNat, natByte n.continuity.toNat, natByte n.service,
        0, 0, 0, 0, 0, 0, natByte (number / 256), natByte number]

/-- The keystream of a packet, by payload position: blocks 0 to 11, 192 bytes (R98). -/
def keystream (key : ControlWord) (n : Nonce) : List Byte :=
  ((List.range 12).map fun k => aes128 key.toList (counterBlock n k)).flatten

/-- One byte of a slot combined with its keystream byte, when it is at or after the payload start
(R89, R99, R105). -/
def combine (stream : List Byte) (start : Option Nat) (slotByte : Nat) (b : Byte) : Byte :=
  match start with
  | none => b
  | some p => if p ≤ slotByte then b ^^^ stream.getD (slotByte - p) 0 else b

end Sys2Proof.Machine
end

