-- ==== Sys2Proof/Machine/Slots.lean ====
section
/-! DEFINITION. The aperture lookup (R19), and what the slot parser reads and writes of a packet slot:
the header (R67), openings (R68 to R70), header rewriting (R74), null content (R75) and the stream map
lookups (R79). -/

namespace Sys2Proof.Machine

/-! ### Aperture lookup (R18, R19) -/

/-- An address lies in a valid entry's range (R18, R19). -/
def inRange (a : Aperture) (address : Addr) : Bool :=
  let g := address.toNat / Config.granuleBytes
  a.valid && decide (a.base ≤ g) && decide (g < a.limit)

/-- The valid entry whose range contains an address (R19). -/
def findAperture (s : State) (address : Addr) : Option ApertureNo :=
  (List.finRange 12).find? fun i => inRange s.apertures[i] address

/-! ### Bytes of a slot (R66) -/

/-- The first byte of an aperture. -/
def apertureStart (base : Nat) : Nat := base * Config.granuleBytes

/-- The address of the slot an address falls in (R66). -/
def slotAddress (base : Nat) (address : Addr) : Addr :=
  BitVec.ofNat 32 (address.toNat - (address.toNat - apertureStart base) % Config.slotBytes)

/-- The slot word at an address (R66). -/
def slotWord (base : Nat) (address : Addr) : Nat :=
  ((address.toNat - apertureStart base) % Config.slotBytes) / 8

/-- Each byte of some words changed by its slot byte number, the words starting at slot word
`first`. -/
def mapSlotWords (first : Nat) (f : Nat → Byte → Byte) (words : List Word) : List Word :=
  words.zipIdx.map fun p =>
    wordOf ((bytesOf p.1).zipIdx.map fun q => f (8 * (first + p.2) + q.2) q.1)

/-- The slot words a segment covers, as a set of bits (R91). -/
def coveredWords (first n : Nat) : BitVec 24 := BitVec.ofNat 24 ((2 ^ n - 1) * 2 ^ first)

/-! ### The header (R67, 11 SLOT AND HEADER LAYOUT) -/

/-- The fields the part reads of slot bytes 0 to 8 (R67). -/
structure Header where
  stamp      : BitVec 32
  sync       : Byte
  pid        : Pid
  code       : BitVec 2
  adaptation : BitVec 2
  continuity : BitVec 4
  length     : Byte
deriving DecidableEq, Repr

/-- The header in slot words 0 and 1 (R67). -/
def headerOf (w0 w1 : Word) : Header where
  stamp      := w0.setWidth 32
  sync       := byteOf w0 4
  pid        := (byteOf w0 5).setWidth 5 ++ byteOf w0 6
  code       := (byteOf w0 7 >>> 6).setWidth 2
  adaptation := (byteOf w0 7 >>> 4).setWidth 2
  continuity := (byteOf w0 7).setWidth 4
  length     := byteOf w1 0

/-- A proper opening is malformed (R70). -/
def malformed (h : Header) : Bool :=
  h.sync != 0x47#8 || h.code == 1#2 || h.adaptation == 0#2
    || (h.adaptation == 3#2 && decide (182 < h.length.toNat))
    || (h.adaptation == 2#2 && h.length != 183#8)

/-- The payload start of a header that is not malformed, or none (R70). -/
def payloadStart (h : Header) : Option Nat :=
  match h.adaptation.toNat with
  | 1 => some 8
  | 3 => some (9 + h.length.toNat)
  | _ => none

/-- An opening is proper: it covers words 0 and 1 with all 16 enables set (R69). -/
def proper : List WriteWord → Bool
  | w0 :: w1 :: _ => w0.enables == allEnabled && w1.enables == allEnabled
  | _ => false

/-- The header in an opening's data (R67). -/
def openingHeader (words : List WriteWord) : Header :=
  headerOf (words.getD 0 ⟨0, 0⟩).data (words.getD 1 ⟨0, 0⟩).data

/-- A header byte rewritten: PID in bytes 5 and 6, key-phase code in byte 7 (R74). -/
def rewriteByte (pid : Pid) (code : BitVec 2) (slotByte : Nat) (b : Byte) : Byte :=
  match slotByte with
  | 5 => (b &&& 0xE0#8) ||| (pid >>> 8).setWidth 8
  | 6 => pid.setWidth 8
  | 7 => (b &&& 0x3F#8) ||| (code.setWidth 8 <<< 6)
  | _ => b

/-- Null content of a slot byte; the stamp's bytes are as the segment carries them (R75). -/
def nullByte (slotByte : Nat) (b : Byte) : Byte :=
  match slotByte with
  | 0 | 1 | 2 | 3 => b
  | 4 => 0x47
  | 5 => 0x1F
  | 6 => 0xFF
  | 7 => 0x10
  | _ => 0xFF

/-- A write segment as null content: every byte of its words, enables set but for the stamp's bytes,
whose enables are the segment's own (R75, R90). -/
def nullWords (first : Nat) (words : List WriteWord) : List WriteWord :=
  let data := mapSlotWords first nullByte (words.map (·.data))
  (words.zip data).zipIdx.map fun p =>
    ⟨p.1.2, if first + p.2 = 0 then p.1.1.enables ||| 0xF0#8 else allEnabled⟩

/-- A write segment with its bytes changed and its enables kept (R74, R89). -/
def keptWords (first : Nat) (f : Nat → Byte → Byte) (words : List WriteWord) : List WriteWord :=
  words.zipWith (fun w d => ⟨d, w.enables⟩) (mapSlotWords first f (words.map (·.data)))

/-! ### Stream map lookups (R79) -/

/-- The effective output PID: the output PID when present, else the input PID (R79). -/
def effectiveOutput (e : StreamEntry) : Pid := e.output.getD e.input

/-- The valid entry with an input PID (R79). -/
def findInput (s : State) (pid : Pid) : Option StreamEntry :=
  ((List.finRange 48).find? fun i => s.streams[i].valid && s.streams[i].input == pid).map
    fun i => s.streams[i]

/-- The valid entry with an effective output PID (R79). -/
def findOutput (s : State) (pid : Pid) : Option StreamEntry :=
  ((List.finRange 48).find? fun i => s.streams[i].valid && effectiveOutput s.streams[i] == pid).map
    fun i => s.streams[i]

end Sys2Proof.Machine
end

