-- ==== Sys2Proof/Machine/Engine.lean ====
section
/-! DEFINITION. The job engine (R143 to R163): triggers, selection, the requests a run forms, and what
the engine does with their responses. -/

namespace Sys2Proof.Machine

/-- A job slot's new contents. -/
def putJob (j : JobNo) (v : JobSlot) (s : State) : State := { s with jobs := s.jobs.set j v }

/-- The engine is free while no slot is RUNNING (R144). -/
def engineFree (s : State) : Bool :=
  (List.finRange 6).all fun j => decide (s.jobs[j].state ≠ .running)

/-! ### Forming requests (R153, R156 to R159) -/

/-- The words from an address to the end of its line (R153). -/
def lineWords (a : Addr) : Nat := 16 - a.toNat / 8 % 16

/-- The address of a word of a range. -/
def rangeAddress (base : Addr) (words : Nat) : Addr := base + BitVec.ofNat 32 (8 * words)

/-- A request of the engine: initiator 15, tagged with the slot's number (R153). -/
def jobRequest (j : JobNo) (op : Op) (address : Addr) : Request :=
  ⟨Config.ownInitiator, ⟨j.val, Nat.lt_trans j.isLt (by decide)⟩, op, address⟩

/-- A write of the engine has every byte enable set (R153). -/
def fullWrite (words : List Word) : Op := .write (words.map fun w => ⟨w, allEnabled⟩)

/-- What a FILL request of `n` words at an address carries: null content by slot position in a valid
PACKET aperture, the pattern word elsewhere (R156). -/
def fillWords (s : State) (pattern : Word) (address : Addr) (n : Nat) : List Word :=
  match findAperture s address with
  | none => List.replicate n pattern
  | some i =>
    let a := s.apertures[i]
    match a.view with
    | .packet =>
      (List.range n).map fun k =>
        wordOf ((List.range 8).map fun b =>
          nullByte (8 * slotWord a.base (rangeAddress address k) + b) 0)
    | .raw | .sample => List.replicate n pattern

/-- The first request of a run's next step, from its cursor (R153, R156 to R159). -/
def firstRequest (s : State) (j : JobNo) : JobPhase × Request :=
  let v := s.jobs[j]
  let left := v.config.length - v.cursor
  let src := rangeAddress v.config.source v.cursor
  let tgt := rangeAddress v.config.target v.cursor
  match v.config.kind with
  | .fill =>
    let n := min left (lineWords tgt)
    (.fillWrite, jobRequest j (fullWrite (fillWords s v.config.pattern tgt n)) tgt)
  | .convert => (.convertRead, jobRequest j (.read (min left (min (lineWords src) (lineWords tgt)))) src)
  | .sweep => (.sweepFirst, jobRequest j (.read (min Config.slotWords (lineWords tgt))) tgt)
  | .digest => (.digestRead, jobRequest j (.read (min left (lineWords src))) src)

/-- The engine forms a request and presents it to the intake (R153). -/
def present (j : JobNo) (p : JobPhase × Request) (s : State) : State :=
  { s with run := some ⟨j, p.2, p.1, false⟩ }

/-! ### Selection (R151, R152) -/

/-- A slot is eligible: PENDING or SUSPENDED, and not window-bound or the window is open (R151). -/
def eligible (s : State) (j : JobNo) : Bool :=
  let v := s.jobs[j]
  (decide (v.state = .pending) || decide (v.state = .suspended))
    && (!v.config.windowBound || s.time.windowOpen)

/-- The first eligible slot below B (R152). -/
def fixedChoice (s : State) : Option JobNo :=
  (List.finRange 6).find? fun j => decide (j.val < s.boundary) && eligible s j

/-- The slots at or above B in the order of the round-robin examination: those above the remembered
slot, then from B up to the remembered slot (R152). -/
def roundRobinOrder (s : State) : List JobNo :=
  let upper := (List.finRange 6).filter fun j => decide (s.boundary ≤ j.val)
  (upper.filter fun j => decide (s.remembered < j)) ++ (upper.filter fun j => decide (j ≤ s.remembered))

/-- A chosen slot becomes RUNNING and presents its first request (R151, R153). -/
def startRun (j : JobNo) (s : State) : State :=
  let s := putJob j { s.jobs[j] with state := .running } s
  present j (firstRequest s j) s

/-- The free engine makes a selection (R151, R152). -/
def select (s : State) : State :=
  if engineFree s then
    match fixedChoice s with
    | some j => startRun j s
    | none =>
      match (roundRobinOrder s).find? (eligible s) with
      | some j => startRun j { s with remembered := j }
      | none => s
  else s

/-! ### Triggers (R148, R149) -/

/-- The running digest register at the start of a run (R149, R159). -/
def digestStart : BitVec 32 := 0xFFFFFFFF#32

/-- A trigger reaches a slot (R149). -/
def triggerSlot (j : JobNo) (s : State) : State :=
  let v := s.jobs[j]
  match v.state with
  | .idle => putJob j { v with state := .pending, cursor := 0, digest := digestStart, swept := 0 } s
  | .pending | .running | .suspended =>
    setCause .triggerOverflow (putJob j { v with overflow := true } s)
  | .disabled => s

/-- A trigger is delivered to every slot whose configured trigger matches (R148). -/
def deliver (t : Trigger) (s : State) : State :=
  (List.finRange 6).foldl (fun s j => if s.jobs[j].config.trigger = t then triggerSlot j s else s) s

/-! ### The end of a run (R146, R154, R155) -/

/-- The result record of a run that ends (R143). -/
def resultOf (v : JobSlot) (st : JobStatus) (fault : Option (Status × Addr)) : JobResult where
  status := st
  words  := v.cursor
  swept  := if v.config.kind = .sweep then v.swept else 0
  digest := if v.config.kind = .digest ∧ st = .done then ~~~v.digest else 0
  fault  := fault

/-- A run ends: the result record is written, the slot becomes IDLE, or DISABLED when its enable is 0,
and the engine is free (R154, R155). -/
def endRun (j : JobNo) (st : JobStatus) (fault : Option (Status × Addr)) (s : State) : State :=
  let v := s.jobs[j]
  { putJob j { v with
      state  := if v.config.enable then .idle else .disabled
      result := resultOf v st fault } s with run := none }

/-- A run ends ABORTED (R146, R161). -/
def abortRun (j : JobNo) (s : State) : State := setCause .jobAborted (endRun j .aborted none s)

/-- A run ends DONE: result, JOB_DONE, completion triggers, selection (R155). -/
def completeRun (j : JobNo) (s : State) : State :=
  select (deliver (.done j) (setCause .jobDone (endRun j .done none s)))

/-- A run ends FAULTED: result with the fault cause, record JOB_FAULT, cause JOB_FAULT (R154). -/
def faultRun (j : JobNo) (st : Status) (r : Request) (aperture : Option ApertureNo) (s : State) : State :=
  let s := endRun j .faulted (some (st, r.address)) s
  let record := { plainRecord s .jobFault Config.ownInitiator (opKind r.op) r.address aperture with
    jobSlot := some j }
  select (setCause .jobFault (offer record s))

/-- A window-bound run is suspended with its cursor kept, and the engine is free (R160). -/
def suspendRun (j : JobNo) (s : State) : State :=
  select { putJob j { s.jobs[j] with state := .suspended } s with run := none }

/-- The window reaches the run at a stopping point: its enable is 1, it is window-bound, and the window
is closed (R160). -/
def windowStops (v : JobSlot) (s : State) : Bool :=
  v.config.enable && v.config.windowBound && !s.time.windowOpen

/-- A stopping point of the run (R153): it ends DONE at its length, ABORTED when its enable is 0, is
suspended when window-bound and the window is closed, and otherwise presents its next request (R146,
R154, R160). -/
def stoppingPoint (j : JobNo) (next : State → JobPhase × Request) (s : State) : State :=
  let v := s.jobs[j]
  if v.config.length ≤ v.cursor then completeRun j s
  else if !v.config.enable then select (abortRun j s)
  else if windowStops v s then suspendRun j s
  else present j (next s) s

/-- The cursor advances (R156 to R159). -/
def advance (j : JobNo) (words : Nat) (s : State) : State :=
  putJob j { s.jobs[j] with cursor := s.jobs[j].cursor + words } s

/-! ### DIGEST and SWEEP (R158, R159) -/

/-- One shift of the CRC-32 register (R159). -/
def digestShift (c : BitVec 32) : BitVec 32 :=
  if c.getLsbD 0 then (c >>> 1) ^^^ 0xEDB88320#32 else c >>> 1

/-- One byte taken into the CRC-32 register (R159). -/
def digestByte (c : BitVec 32) (b : Byte) : BitVec 32 :=
  digestShift (digestShift (digestShift (digestShift (digestShift (digestShift (digestShift
    (digestShift (c ^^^ b.setWidth 32))))))))

/-- Some words taken into the CRC-32 register, each from byte 0 (R159). -/
def digestWords (c : BitVec 32) (words : List Word) : BitVec 32 :=
  (words.map bytesOf).flatten.foldl digestByte c

/-- A unit read is to be rewritten: key-phase code 00, a SCRAMBLE entry of its PID as input PID, and
that entry's service RUNNING or STARVED (R158). -/
def sweepRewrites (s : State) (unit : List Word) : Bool :=
  let h := headerOf (unit.getD 0 0) (unit.getD 1 0)
  h.code == 0#2 &&
    match findInput s h.pid with
    | none => false
    | some e =>
      match e.treatment, e.service with
      | .scramble, some i =>
        decide (s.services[i].state = .running) || decide (s.services[i].state = .starved)
      | _, _ => false

/-- The two parts of a unit at an address, split at the line boundary (R158). -/
def firstPart (a : Addr) : Nat := min Config.slotWords (lineWords a)

/-! ### Responses (R154) -/

/-- A DONE response is used as the kind's rule gives (R154, R156 to R159). A SWEEP's unit skipped at its
second read's answer advances the cursor (R158), but with the window closed during its reads the run is
suspended at the unit's start and reads it again (R160), unless the unit is the last, which completes the
run (R160, log 33). -/
def jobDone (r : JobRun) (data : List Word) (s : State) : State :=
  let j := r.slot
  let v := s.jobs[j]
  let n := opLength r.request.op
  let tgt := rangeAddress v.config.target v.cursor
  let k := firstPart tgt
  let again := fun t => firstRequest t j
  match r.phase with
  | .fillWrite | .convertWrite => stoppingPoint j again (advance j n s)
  | .digestRead =>
    stoppingPoint j again (advance j n (putJob j { v with digest := digestWords v.digest data } s))
  | .convertRead => stoppingPoint j (fun _ => (.convertWrite, jobRequest j (fullWrite data) tgt)) s
  | .sweepFirst =>
    stoppingPoint j
      (fun _ => (.sweepSecond data, jobRequest j (.read (Config.slotWords - k)) (rangeAddress tgt k))) s
  | .sweepSecond first =>
    let unit := first ++ data
    if sweepRewrites s unit then
      stoppingPoint j (fun _ => (.sweepOpening unit, jobRequest j (fullWrite (unit.take k)) tgt)) s
    else if windowStops v s && decide (v.cursor + Config.slotWords < v.config.length) then suspendRun j s
    else stoppingPoint j again (advance j Config.slotWords s)
  | .sweepOpening unit =>
    present j (.sweepContinuation, jobRequest j (fullWrite (unit.drop k)) (rangeAddress tgt k)) s
  | .sweepContinuation =>
    stoppingPoint j again
      (advance j Config.slotWords (putJob j { v with swept := v.swept + 1 } s))

/-- The response to a job request is delivered to the engine (R154). -/
def jobResponse (st : Status) (data : List Word) (aperture : Option ApertureNo) (s : State) : State :=
  match s.run with
  | none => s
  | some r =>
    match st with
    | .done => jobDone r data s
    | .refused | .fault => faultRun r.slot st r.request aperture s
    | .reset => abortRun r.slot s

/-! ### The window and the path reset (R160, R161) -/

/-- The run is window-bound and its request may be withdrawn: presented, not taken, and not the
continuation write of a SWEEP rewrite (R146, R160). -/
def withdrawable (r : JobRun) : Bool := !r.taken && decide (r.phase ≠ .sweepContinuation)

/-- The window's closing reaches the running job (R160). -/
def windowCloses (s : State) : State :=
  match s.run with
  | none => s
  | some r => if s.jobs[r.slot].config.windowBound && withdrawable r then suspendRun r.slot s else s

/-- A path reset ends the running job ABORTED and returns PENDING and SUSPENDED slots to IDLE, with no
selection (R161). -/
def resetJobs (s : State) : State :=
  let s := match s.run with
    | none => s
    | some r => abortRun r.slot s
  (List.finRange 6).foldl (fun s j =>
    match s.jobs[j].state with
    | .pending | .suspended => putJob j { s.jobs[j] with state := .idle } s
    | .disabled | .idle | .running => s) s

end Sys2Proof.Machine
end

