-- ==== Sys2Proof/Machine/Keys.lean ====
section
/-! DEFINITION. The service key table (R107 to R129): key slots, flips, expiry, retirement and the
key-wanted indication. -/

namespace Sys2Proof.Machine

/-- The key slot of a phase (R107). -/
def keySlot (v : Service) : Phase → KeySlot
  | .a => v.slotA
  | .b => v.slotB

/-- A service with one key slot's new contents. -/
def withKeySlot (p : Phase) (k : KeySlot) (v : Service) : Service :=
  match p with
  | .a => { v with slotA := k }
  | .b => { v with slotB := k }

/-- The other phase of a service. -/
def otherPhase : Phase → Phase
  | .a => .b
  | .b => .a

/-- The ACTIVE slot of a service, when it has one (R109). -/
def activePhase (v : Service) : Option Phase :=
  if v.slotA.state = .active then some .a
  else if v.slotB.state = .active then some .b
  else none

/-- The state of the next slot, which only a service with an ACTIVE slot has (R108). -/
def nextState (v : Service) : Option KeyState :=
  (activePhase v).map fun p => (keySlot v (otherPhase p)).state

/-- The key-wanted indication (R125). -/
def keyWanted (v : Service) : Bool :=
  decide (v.state ≠ .idle) && (decide (activePhase v = none) || decide (nextState v = some .empty))

/-- A service's new contents; KEY_WANTED is set when its indication becomes set (R125). -/
def putService (i : ServiceNo) (v : Service) (s : State) : State :=
  let t := { s with services := s.services.set i v }
  if !keyWanted s.services[i] && keyWanted v then setCause .keyWanted t else t

/-! ### Retirement (R121 to R123) -/

/-- A slot's word is zeroed when it becomes EMPTY (R123). -/
def zeroKey : ControlWord := Vector.replicate 16 0

/-- A RETIRING slot is due to become EMPTY: its age has reached the guard and it has no user (R123). -/
def retireDue (v : Service) (k : KeySlot) : Bool :=
  decide (k.state = .retiring) && decide (v.guard ≤ k.age) && decide (k.users = 0)

/-- The slot becomes EMPTY, its word zeroed and its age kept (R122, R123). -/
def emptied (k : KeySlot) : KeySlot := { k with state := .empty, key := zeroKey }

/-- A slot that is due becomes EMPTY (R123). -/
def retire (i : ServiceNo) (p : Phase) (s : State) : State :=
  let v := s.services[i]
  if retireDue v (keySlot v p) then putService i (withKeySlot p (emptied (keySlot v p)) v) s else s

/-- Every slot of a service that is due becomes EMPTY (R123, R124). -/
def retireBoth (i : ServiceNo) (s : State) : State := retire i .b (retire i .a s)

/-! ### Flips and expiry (R117 to R119) -/

/-- The ACTIVE slot `p` becomes RETIRING with age 0, the next slot ACTIVE, the counter P, the
extension count 0 and the state RUNNING (R118). -/
def flipped (p : Phase) (v : Service) : Service :=
  let q := otherPhase p
  withKeySlot q { keySlot v q with state := .active }
    (withKeySlot p { keySlot v p with state := .retiring, age := 0 }
      { v with state := .running, counter := v.period, extension := 0 })

/-- A flip, offered to the job engine as a FLIP trigger (R118, R148, R151). -/
def flipService (i : ServiceNo) (s : State) : State :=
  match activePhase s.services[i] with
  | none => s
  | some p => select (deliver (.flip i) (putService i (flipped p s.services[i]) s))

/-- The states in which the period counter counts (R117). -/
def counting (v : Service) : Bool := decide (v.state = .running) || decide (v.state = .starved)

/-- An expiry of a service in RUNNING or STARVED: a flip, an extension or WITHHOLDING (R119). -/
def expire (i : ServiceNo) (s : State) : State :=
  let v := s.services[i]
  if !counting v then s
  else if nextState v = some .ready then flipService i s
  else if v.extension < v.limit then
    setCause .starved
      (putService i { v with state := .starved, extension := v.extension + 1, counter := v.period } s)
  else setCause .withholding (putService i { v with state := .withholding, counter := 0 } s)

/-! ### A tick (R122, R124) -/

/-- The retire age of a RETIRING slot rises, stopping at 65,535 (R122). -/
def tickSlot (k : KeySlot) : KeySlot :=
  if k.state = .retiring then { k with age := min Config.ageLimit (k.age + 1) } else k

/-- A service at a tick: ages rise, and the counter falls unless counting is held (R117, R124). -/
def tickService (hold : Bool) (v : Service) : Service :=
  { v with
    slotA := tickSlot v.slotA, slotB := tickSlot v.slotB
    counter := if counting v && !hold then v.counter - 1 else v.counter }

/-- The tick lowers the service's counter to 0 (R117). -/
def expires (hold : Bool) (v : Service) : Bool := counting v && !hold && decide (v.counter = 1)

/-! ### Loading, starting and stopping (R112 to R116) -/

/-- A loaded slot (R112). -/
def loaded (word : ControlWord) (k : KeySlot) : KeySlot := { k with state := .ready, key := word }

/-- What follows a load within the same command: a flip, a resumption or nothing (R112 to R114). -/
def afterLoad (i : ServiceNo) (p : Phase) (s : State) : State :=
  let v := s.services[i]
  match v.state, activePhase v with
  | .starved, some _ => flipService i s
  | .withholding, some _ => flipService i s
  | .withholding, none =>
    putService i (withKeySlot p { keySlot v p with state := .active }
      { v with state := .running, counter := v.period }) s
  | .starved, none => s
  | .idle, _ => s
  | .running, _ => s

/-- A service started on a phase (R115). -/
def started (p : Phase) (v : Service) : Service :=
  withKeySlot p { keySlot v p with state := .active }
    { v with state := .running, counter := v.period, extension := 0 }

/-- An ACTIVE slot becomes RETIRING with age 0 when its service stops (R116). -/
def stoppedSlot (k : KeySlot) : KeySlot :=
  if k.state = .active then { k with state := .retiring, age := 0 } else k

/-- A service stopped (R116). -/
def stopped (v : Service) : Service :=
  { v with state := .idle, extension := 0, slotA := stoppedSlot v.slotA, slotB := stoppedSlot v.slotB }

/-! ### Key purge (R126) -/

/-- A service after a purge: both slots EMPTY, and WITHHOLDING with extension count 0 unless IDLE. -/
def purgedService (v : Service) : Service :=
  let v := { v with slotA := KeySlot.reset, slotB := KeySlot.reset }
  if v.state = .idle then v else { v with state := .withholding, extension := 0 }

/-- Steps 2 to 4 of a key purge (R126). -/
def purgeKeys (s : State) : State :=
  let rises := (List.finRange 24).any fun i =>
    !keyWanted s.services[i] && keyWanted (purgedService s.services[i])
  let t := setCause .purged
    { s with services := Vector.ofFn fun i : Fin 24 => purgedService s.services[i] }
  if rises then setCause .keyWanted t else t

end Sys2Proof.Machine
end

