-- ==== Sys2Proof/Machine/Tracker.lean ====
section
/-! DEFINITION. The slot tracker (R85 to R97): opening, marking and closing its entries, and the use of
key slots (R88). -/

namespace Sys2Proof.Machine

/-- The open entry that serves a slot (R85). -/
def findEntry (s : State) (slot : Addr) : Option TrackerEntry :=
  s.tracker.find? fun e => e.slot == slot

/-! ### Key slot users (R88) -/

/-- A key slot gains a user (R88). -/
def addUser (i : ServiceNo) (p : Phase) (s : State) : State :=
  let v := s.services[i]
  putService i (withKeySlot p { keySlot v p with users := (keySlot v p).users + 1 } v) s

/-- A key slot loses a user, and becomes EMPTY if that makes it due (R88, R123). -/
def dropUser (i : ServiceNo) (p : Phase) (s : State) : State :=
  let v := s.services[i]
  retire i p (putService i (withKeySlot p { keySlot v p with users := (keySlot v p).users - 1 } v) s)

/-- An entry of a disposition becomes a user of its key slot (R86). -/
def takeUse (d : Disposition) (s : State) : State :=
  match d with
  | .scramble i p => addUser i p s
  | .clear | .pass | .null => s

/-- An entry of a disposition gives up its use of its key slot (R88). -/
def dropUse (d : Disposition) (s : State) : State :=
  match d with
  | .scramble i p => dropUser i p s
  | .clear | .pass | .null => s

/-! ### Closes (R87, R91, R94) -/

/-- An entry leaves the list and gives up its key slot (R88, R94). -/
def closeEntry (e : TrackerEntry) (s : State) : State :=
  dropUse e.disposition { s with tracker := s.tracker.filter fun x => x.slot != e.slot }

/-- The service of a disposition (R94). -/
def dispositionService : Disposition → Option ServiceNo
  | .scramble i _ => some i
  | .clear | .pass | .null => none

/-- The record ABANDONED of an entry (R94). -/
def abandonedRecord (s : State) (e : TrackerEntry) (reason : CloseReason) : CaptureRecord :=
  { plainRecord s .abandoned e.initiator .write e.slot (some e.aperture) with
    pid     := if e.disposition = .null then none else some e.pid
    service := dispositionService e.disposition
    reason  := some reason }

/-- An entry is closed as abandoned (R94). -/
def abandon (reason : CloseReason) (e : TrackerEntry) (s : State) : State :=
  closeEntry e (offer (abandonedRecord s e reason) s)

/-- Several entries are closed as abandoned, in the order of the list (R94). -/
def abandonAll (reason : CloseReason) (es : List TrackerEntry) (s : State) : State :=
  es.foldl (fun s e => abandon reason e s) s

/-- Every entry that satisfies a test is closed as abandoned, in opening order (R32, R95, R97). -/
def abandonWhere (reason : CloseReason) (test : TrackerEntry → Bool) (s : State) : State :=
  abandonAll reason (s.tracker.filter test) s

/-! ### Opening (R86, R87) -/

/-- The entry that serves a slot is closed as superseded (R87). -/
def supersede (slot : Addr) (s : State) : State :=
  match findEntry s slot with
  | some e => closeEntry e s
  | none => s

/-- With 20 entries open the first in opening order is closed as evicted (R87). -/
def makeRoom (s : State) : State :=
  if s.tracker.length < Config.trackerLimit then s
  else
    match s.tracker with
    | e :: _ => abandon .evicted e s
    | [] => s

/-- A new entry joins the tracker, in the order of R86. -/
def openEntry (e : TrackerEntry) (s : State) : State :=
  let s := makeRoom (supersede e.slot s)
  takeUse e.disposition { s with tracker := s.tracker ++ [e] }

/-! ### Marking (R91) -/

/-- The words-written set of a complete packet (R91). -/
def allWords : BitVec 24 := BitVec.allOnes 24

/-- A segment's words join an entry's set, and its last-write tick becomes the tick count (R91). -/
def markEntry (s : State) (first n : Nat) (e : TrackerEntry) : TrackerEntry :=
  { e with written := e.written ||| coveredWords first n, lastWrite := s.time.tickCount }

/-- The entry of a slot is marked, and closes complete when its set holds all 24 words (R91). -/
def markWords (slot : Addr) (first n : Nat) (s : State) : State :=
  match findEntry s slot with
  | none => s
  | some e =>
    let e' := markEntry s first n e
    if e'.written = allWords then closeEntry e s
    else { s with tracker := s.tracker.map fun x => if x.slot = slot then e' else x }

/-! ### Ageing and purge (R95, R97, R126) -/

/-- An entry's last write lies more than the slot idle limit behind the tick count (R97). -/
def aged (s : State) (e : TrackerEntry) : Bool :=
  decide (s.idleLimit < (s.time.tickCount - e.lastWrite).toNat)

/-- A disposition is SCRAMBLE (R95). -/
def isScramble : Disposition → Bool
  | .scramble _ _ => true
  | .clear | .pass | .null => false

/-- A key purge (R126). -/
def keyPurge (s : State) : State :=
  purgeKeys (abandonWhere .purge (fun e => isScramble e.disposition) s)

/-! ### Path reset (R96, R129) -/

/-- A slot without users (R96). -/
def withoutUsers (v : Service) : Service :=
  { v with slotA := { v.slotA with users := 0 }, slotB := { v.slotB with users := 0 } }

/-- A path reset empties the tracker: no records, every user count 0, and the retirements that follow
(R96, R129). -/
def emptyTracker (s : State) : State :=
  (List.finRange 24).foldl (fun s i => retireBoth i s)
    { s with
      tracker := []
      services := Vector.ofFn fun i : Fin 24 => withoutUsers s.services[i] }

end Sys2Proof.Machine
end

