-- ==== Sys2Proof/Machine/Packets.lean ====
section
/-! DEFINITION. The packet path: dispositions (R71 to R78), openings and continuations (R86, R89 to R93),
and the reads of packet slots, clear reads among them (R83, R101 to R105). -/

namespace Sys2Proof.Machine

/-! ### The disposition (R71, R72) -/

/-- What the slot parser decides of an opening: the disposition, the PID to be written (R74), the
service whose nulled count rises (R78), and whether the reason is MALFORMED. -/
structure Decision where
  disposition : Disposition
  pid         : Pid
  nulled      : Option ServiceNo
  malformed   : Bool
deriving DecidableEq, Repr

/-- A decision that is neither malformed nor counted as nulled. -/
def plainDecision (d : Disposition) (pid : Pid) : Decision := ⟨d, pid, none, false⟩

/-- An opening of a SCRAMBLE stream, by its service's state (R72). -/
def serviceDecision (s : State) (i : ServiceNo) (pid : Pid) : Decision :=
  let v := s.services[i]
  match v.state, activePhase v, v.policy with
  | .running, some p, _ => plainDecision (.scramble i p) pid
  | .starved, some p, _ => plainDecision (.scramble i p) pid
  | .idle, _, .clear => plainDecision .clear pid
  | .idle, _, .null => ⟨.null, pid, some i, false⟩
  | .withholding, _, _ => ⟨.null, pid, some i, false⟩
  -- R109 rules these two out
  | .running, none, _ => plainDecision .null pid
  | .starved, none, _ => plainDecision .null pid

/-- An opening in clear that the stream map lists (R71, step 4). -/
def listedDecision (s : State) (e : StreamEntry) : Decision :=
  let pid := effectiveOutput e
  match e.treatment, e.service with
  | .clear, _ => plainDecision .clear pid
  | .null, _ => plainDecision .null pid
  | .scramble, some i => serviceDecision s i pid
  -- R80 rules this out
  | .scramble, none => plainDecision .null pid

/-- The unlisted treatment as a disposition (R71). -/
def unlistedDisposition : ClearOrNull → Disposition
  | .clear => .clear
  | .null => .null

/-- The disposition of an opening, by the first step of R71 that applies. -/
def decideOpening (s : State) (unlisted : ClearOrNull) (words : List WriteWord) : Decision :=
  let h := openingHeader words
  if !proper words || malformed h then ⟨.null, 0, none, true⟩
  else if systemPid h.pid.toNat then plainDecision .clear h.pid
  else
    match h.code.getLsbD 1, findInput s h.pid with
    | true, some e => plainDecision .pass (effectiveOutput e)
    | true, none => plainDecision .pass h.pid
    | false, some e => listedDecision s e
    | false, none => plainDecision (unlistedDisposition unlisted) h.pid

/-- The counts of scrambled and nulled packets (R78). -/
def countPacket (d : Decision) (s : State) : State :=
  match d.disposition, d.nulled with
  | .scramble i _, _ =>
    { s with services := s.services.set i { s.services[i] with scrambled := s.services[i].scrambled + 1 } }
  | _, some i =>
    { s with services := s.services.set i { s.services[i] with nulled := s.services[i].nulled + 1 } }
  | _, none => s

/-! ### Openings (R73 to R77, R86) -/

/-- The key-phase code of a phase (R67, R74). -/
def phaseCode : Phase → BitVec 2
  | .a => 2
  | .b => 3

/-- The keystream of a key slot as it stands, under nonce fields (R98, R99). -/
def slotStream (s : State) (i : ServiceNo) (p : Phase) (stamp : BitVec 32) (pid : Pid)
    (continuity : BitVec 4) : List Byte :=
  keystream (keySlot s.services[i] p).key ⟨stamp, pid, continuity, i.val⟩

/-- The contents of the new tracker entry (R73, R86). -/
def openingEntry (s : State) (p : PendingEntry) (number : ApertureNo) (slot : Addr) (d : Decision)
    (words : List WriteWord) : TrackerEntry :=
  let h := openingHeader words
  let covered := coveredWords 0 words.length
  match d.disposition with
  | .null =>
    ⟨slot, number, p.request.initiator, .null, none, 0, 0, 0, covered, s.time.tickCount⟩
  | .clear | .pass | .scramble _ _ =>
    ⟨slot, number, p.request.initiator, d.disposition, payloadStart h, h.stamp, d.pid, h.continuity,
      covered, s.time.tickCount⟩

/-- The words an opening writes (R74, R75). -/
def openingWords (s : State) (d : Decision) (words : List WriteWord) : List WriteWord :=
  let h := openingHeader words
  match d.disposition with
  | .null => nullWords 0 words
  | .clear | .pass => keptWords 0 (rewriteByte d.pid h.code) words
  | .scramble i p =>
    let stream := slotStream s i p h.stamp d.pid h.continuity
    keptWords 0
      (fun k b => combine stream (payloadStart h) k (rewriteByte d.pid (phaseCode p) k b)) words

/-- The record MALFORMED (R77); the PID is given when the enables of slot bytes 5 and 6 are set. -/
def malformedRecord (s : State) (p : PendingEntry) (number : ApertureNo) (g : Segment)
    (words : List WriteWord) : CaptureRecord :=
  let w := words.getD 0 ⟨0, 0⟩
  { plainRecord s .malformed p.request.initiator .write g.address (some number) with
    pid := if w.enables.getLsbD 5 && w.enables.getLsbD 6 then some (openingHeader words).pid else none }

/-- A packet write is handed to the memory port (R12, R74, R89). -/
def handPacketWrite (p : PendingEntry) (ref : SegRef) (g : Segment) (words : List WriteWord) (s : State) :
    State :=
  handAccess ⟨accessFor p.request g.address (.write words), .segment ref .lower⟩ s

/-- An opening is handed to the slot parser (R71 to R78, R86). -/
def handOpening (p : PendingEntry) (number : ApertureNo) (unlisted : ClearOrNull) (ref : SegRef)
    (g : Segment) (slot : Addr) (words : List WriteWord) (s : State) : State :=
  let d := decideOpening s unlisted words
  let s := countPacket d s
  let s := if d.malformed then offer (malformedRecord s p number g words) s else s
  let s := openEntry (openingEntry s p number slot d words) s
  handPacketWrite p ref g (openingWords s d words) s

/-! ### Continuations (R89 to R93) -/

/-- The words a continuation writes under an open entry (R89, R90). -/
def continuationWords (s : State) (e : TrackerEntry) (first : Nat) (words : List WriteWord) :
    List WriteWord :=
  match e.disposition with
  | .null => nullWords first words
  | .clear | .pass => words
  | .scramble i p =>
    let stream := slotStream s i p e.stamp e.pid e.continuity
    keptWords first (combine stream e.payloadStart) words

/-- A continuation is handed to the slot tracker: written under its entry, or refused as an orphan
(R89 to R91, R93). -/
def handContinuation (p : PendingEntry) (number : ApertureNo) (ref : SegRef) (g : Segment) (slot : Addr)
    (first : Nat) (words : List WriteWord) (s : State) : State :=
  match findEntry s slot with
  | none =>
    finishSegment ref .refused []
      (offer (plainRecord s .orphan p.request.initiator .write g.address (some number)) s)
  | some e =>
    markWords slot first words.length (handPacketWrite p ref g (continuationWords s e first words) s)

/-! ### Reads (R83, R101, R102) -/

/-- The segment's own read is handed to the memory port (R83). -/
def handPacketRead (p : PendingEntry) (ref : SegRef) (g : Segment) (s : State) : State :=
  handAccess ⟨accessFor p.request g.address g.op, .segment ref .lower⟩ s

/-- The header of a clear read settled from an open entry (R101). -/
def planFromEntry (s : State) (e : TrackerEntry) : ClearPlan :=
  match e.disposition, e.payloadStart with
  | .scramble i p, some start =>
    .keyed ⟨(keySlot s.services[i] p).key, ⟨e.stamp, e.pid, e.continuity, i.val⟩, start⟩
  | _, _ => .asStored

/-- A clear read is handed: by the three cases of R101, the last with a header fetch (R102). -/
def handClearRead (p : PendingEntry) (ref : SegRef) (g : Segment) (slot : Addr) (first : Nat)
    (s : State) : State :=
  match findEntry s slot with
  | some e => handPacketRead p ref g (setWork ref (.clear (planFromEntry s e)) s)
  | none =>
    if first = 0 ∧ 2 ≤ opLength g.op then handPacketRead p ref g (setWork ref (.clear .fromData) s)
    else
      handAccess ⟨⟨Config.ownInitiator, p.request.tag, .read 2, slot⟩, .header ref⟩
        (setWork ref (.clear .fetching) s)

/-- A packet segment is handed (R68). -/
def handPacket (p : PendingEntry) (ref : SegRef) (g : Segment) (slot : Addr) (first : Nat) (s : State) :
    State :=
  match p.aperture with
  | some ⟨number, _, .packet clearRead unlisted⟩ =>
    match g.op with
    | .write words =>
      if first = 0 then handOpening p number unlisted ref g slot words s
      else handContinuation p number ref g slot first words s
    | .read _ =>
      if inSet clearRead p.request.initiator then handClearRead p ref g slot first s
      else handPacketRead p ref g s
  | _ => s

/-! ### Settling a header (R103, R104) -/

/-- The record CLEAR_READ_FAILED (R103, R104). -/
def clearFailedRecord (s : State) (p : PendingEntry) (g : Segment) (pid : Pid) (service : Option ServiceNo) :
    CaptureRecord :=
  { plainRecord s .clearReadFailed p.request.initiator .read g.address (entryAperture p) with
    pid := some pid, service := service }

/-- The phase of a stored key-phase code 10 or 11 (R103). -/
def storedPhase (code : BitVec 2) : Phase := if code = 2 then .a else .b

/-- The service and key lookup of a clear read: a plan, or the service of a failure (R104). -/
def lookupKey (s : State) (h : Header) (start : Nat) : Except (Option ServiceNo) ClearPlan :=
  match (findOutput s h.pid).bind (·.service) with
  | none => .error none
  | some i =>
    let k := keySlot s.services[i] (storedPhase h.code)
    if k.state = .empty then .error (some i)
    else .ok (.keyed ⟨k.key, ⟨h.stamp, h.pid, h.continuity, i.val⟩, start⟩)

/-- What a header settled from stored bytes gives (R103). -/
def settlePlan (s : State) (h : Header) : Except (Option ServiceNo) ClearPlan :=
  if !h.code.getLsbD 1 then .ok .asStored
  else if malformed h then .error none
  else
    match payloadStart h with
    | none => .ok .asStored
    | some start => lookupKey s h start

/-- A clear read's plan from stored bytes, and the record of a failure (R103, R104). -/
def settleHeader (p : PendingEntry) (g : Segment) (w0 w1 : Word) (s : State) : ClearPlan × State :=
  let h := headerOf w0 w1
  match settlePlan s h with
  | .ok plan => (plan, s)
  | .error service => (.asStored, offer (clearFailedRecord s p g h.pid service) s)

/-! ### Answers (R76, R83, R102, R105) -/

/-- The data of a clear read: payload bytes combined with the keystream (R105). -/
def clearData (plan : ClearPlan) (first : Nat) (words : List Word) : List Word :=
  match plan with
  | .keyed d =>
    let stream := keystream d.key d.nonce
    mapSlotWords first (combine stream (some d.start)) words
  | .asStored | .fromData | .fetching => words

/-- The answer to the one access of a RAW or packet segment (R10, R14, R76, R83, R89). -/
def answerPlain (p : PendingEntry) (g : Segment) (ref : SegRef) (access : Request) (answer : Answer)
    (s : State) : State :=
  match answer, g.op with
  | .error, _ => finishSegment ref .fault [] (entryFault p access s)
  | .okay data, .read n => finishSegment ref .done (data.toList.take n) s
  | .okay _, .write _ => finishSegment ref .done [] s

/-- The answer to a clear read's own read (R103 to R105). -/
def answerClear (p : PendingEntry) (g : Segment) (ref : SegRef) (plan : ClearPlan) (access : Request)
    (answer : Answer) (s : State) : State :=
  match answer, g.place with
  | .error, _ => finishSegment ref .fault [] (entryFault p access s)
  | .okay data, .packet _ first =>
    let words := data.toList.take (opLength g.op)
    match plan with
    | .fromData =>
      let r := settleHeader p g (words.getD 0 0) (words.getD 1 0) s
      finishSegment ref .done (clearData r.1 first words) r.2
    | .keyed _ | .asStored | .fetching => finishSegment ref .done (clearData plan first words) s
  | .okay data, _ => finishSegment ref .done (data.toList.take (opLength g.op)) s

/-- The answer to a header fetch (R102). A CLEAR_READ_FAILED record is produced here, as the header is
settled, whatever then becomes of the segment's own read: the model's choice (log 31). -/
def answerHeader (p : PendingEntry) (g : Segment) (ref : SegRef) (access : Request) (answer : Answer)
    (s : State) : State :=
  match answer with
  | .error => finishSegment ref .fault [] (entryFault p access s)
  | .okay data =>
    let r := settleHeader p g data[0] data[1] s
    handPacketRead p ref g (setWork ref (.clear r.1) r.2)

end Sys2Proof.Machine
end

