-- ==== Sys2Proof/Machine/Ticks.lean ====
section
/-! DEFINITION. Ticks (R130, R131): what a tick does at once, what it makes due, and the steps that
carry out what is due: IDLE_CLOSE, RETIREMENT, EXPIRY, REFERENCE_QUALIFIED and HOLDOVER_END. A tick and
what it makes due are one event, so whatever is still due is carried out before anything else (log 2). -/

namespace Sys2Proof.Machine

/-! ### What a tick makes due -/

/-- The first aged entry, in opening order, is closed as abandoned, reason IDLE (R97). -/
def closeFirstAged (s : State) : State :=
  match s.tracker.find? (aged s) with
  | none => s
  | some e => abandon .idle e s

/-- A service whose counter reached 0 at the tick acts on its expiry, after any retirement that is due
(R119, R124). -/
def actOnExpiry (i : ServiceNo) (s : State) : State :=
  if s.expiring.contains i then expire i (retireBoth i { s with expiring := s.expiring.erase i }) else s

/-- The reference is qualified when the count has reached 64 (R134, R136). -/
def qualify (s : State) : State :=
  if s.time.state = .acquiring ∧ Config.qualificationLimit ≤ s.time.qualification then
    setCause .locked { s with time := { s.time with state := .locked, hold := false, qualification := 0 } }
  else s

/-- The holdover ends when the countdown has reached 0 (R135, R136). -/
def endHoldover (s : State) : State :=
  if s.time.state = .holdover ∧ s.time.countdown = 0 then
    setCause .frozen { s with time := { s.time with state := .frozen, hold := true } }
  else s

/-- All that a tick has made due is carried out (R97, R124, R134, R135). -/
def finishTick (s : State) : State :=
  let s := abandonWhere .idle (aged s) s
  let s := (List.finRange 24).foldl (fun s i => actOnExpiry i (retireBoth i s)) s
  { endHoldover (qualify s) with tickOpen := false, expiring := [] }

/-- The part with no tick under way (log 2). -/
def settled (s : State) : State := if s.tickOpen then finishTick s else s

/-! ### The tick (R131) -/

/-- The timebase at a tick: the count rises, the division begins again, and the counter of the state
runs (R130, R131, R134, R135). -/
def tickTime (t : Timebase) : Timebase :=
  { t with
    tickCount := t.tickCount + 1
    division := 0
    qualification := if t.state = .acquiring ∧ t.refPresent then t.qualification + 1 else t.qualification
    countdown := if t.state = .holdover then t.countdown - 1 else t.countdown }

/-- A tick is made: the services read the hold as it stood before it (R124, R131, R136). -/
def makeTick (s : State) : State :=
  { s with
    time := tickTime s.time
    services := Vector.ofFn fun i : Fin 24 => tickService s.time.hold s.services[i]
    expiring := (List.finRange 24).filter fun i => expires s.time.hold s.services[i]
    tickOpen := true }

/-- The tick source of a state (R130, R133). -/
def tickSource : TimeState → TickSource
  | .locked => .stationReference
  | .local | .acquiring | .holdover | .frozen => .localOscillator

/-- One edge of the tick source reaches the division count; the edge that brings it to prescale ×
divider makes a tick (R130). -/
def passEdge (s : State) : State :=
  if s.time.division + 1 < s.time.prescale * s.time.divider then
    { s with time := { s.time with division := s.time.division + 1 } }
  else makeTick s

/-- A rising edge of one of the two clocks: only those of the tick source of the state are counted
(R130, R133). -/
def clockEdge (clock : TickSource) (s : State) : State :=
  if tickSource s.time.state = clock then passEdge s else s

/-! ### Events -/

/-- An event of the running part; while the reset input is asserted there is none (R180). -/
def whenRunning (f : State → State) (s : State) : State := if s.inReset then s else f s

/-- TICK (R131): the edges of the tick source (R133) that the division still lacks pass, and the tick is
made. That the command stands for them, whatever the division count stands at, is the model's choice (log 32). -/
def execTick (s : State) : Host.Outcome State Fault Refusal :=
  .next (whenRunning (fun s => makeTick (settled s)) s)

/-- IDLE_CLOSE (R97): at a tick, the first aged entry closes. -/
def execIdleClose (s : State) : Host.Outcome State Fault Refusal :=
  .next (whenRunning (fun s => if s.tickOpen then closeFirstAged s else s) s)

/-- RETIREMENT (R123). -/
def execRetirement (service : ServiceNo) (phase : Phase) (s : State) : Host.Outcome State Fault Refusal :=
  .next (whenRunning (retire service phase) s)

/-- EXPIRY (R119). -/
def execExpiry (service : ServiceNo) (s : State) : Host.Outcome State Fault Refusal :=
  .next (whenRunning (actOnExpiry service) s)

/-- REFERENCE_QUALIFIED (R134). -/
def execReferenceQualified (s : State) : Host.Outcome State Fault Refusal :=
  .next (whenRunning qualify s)

/-- HOLDOVER_END (R135). -/
def execHoldoverEnd (s : State) : Host.Outcome State Fault Refusal :=
  .next (whenRunning endHoldover s)

end Sys2Proof.Machine
end

