-- ==== Sys2Proof/Machine/Intake.lean ====
section
/-! DEFINITION. The intake (R3 to R11, R19 to R24): classification, cutting into segments, the conditions
for taking a request, the arbiter, and the release of responses. -/

namespace Sys2Proof.Machine

/-! ### Classification (R7, R19 to R24) -/

/-- What classification gives a request: what becomes of it, the aperture it falls in and the record
that is produced. -/
structure Verdict where
  disposal : Disposal
  aperture : Option ApertureCopy
  record   : Option CaptureKind
deriving DecidableEq, Repr

/-- The copy of an entry that a request carries (R31). -/
def copyOf (s : State) (i : ApertureNo) (initiator : Initiator) : ApertureCopy :=
  let a := s.apertures[i]
  ⟨i, a.base,
    match a.view with
    | .raw => .raw
    | .sample => .sample a.backing a.width a.depth s.masks[initiator]
    | .packet => .packet a.clearRead a.unlisted⟩

/-- The set an entry checks a kind of request against (R20). -/
def relevantSet (a : Aperture) : Kind → InitiatorSet
  | .read => a.readSet
  | .write => a.writeSet

/-- A request in a valid entry (R20 to R22). -/
def classifyInside (s : State) (i : ApertureNo) (r : Request) : Verdict :=
  let a := s.apertures[i]
  let copy := some (copyOf s i r.initiator)
  if inSet (relevantSet a (opKind r.op)) r.initiator then ⟨.performed, copy, none⟩
  else
    match a.violation with
    | .refuse => ⟨.refused, copy, none⟩
    | .divert => ⟨.refused, copy, some .denied⟩
    | .note => ⟨.performed, copy, some .noted⟩

/-- A request in no valid entry (R24). -/
def classifyUnmapped (s : State) : Verdict :=
  match s.unmapped with
  | .forward => ⟨.performed, none, none⟩
  | .forwardNote => ⟨.performed, none, some .unmapped⟩
  | .refuse => ⟨.refused, none, none⟩
  | .divert => ⟨.refused, none, some .unmapped⟩

/-- A request is found ill-formed, or is classified (R3, R19). -/
def classify (s : State) (source : Source) (r : Request) : Verdict :=
  if illFormed source r then ⟨.illFormed, none, some .illFormed⟩
  else
    match findAperture s r.address with
    | some i => classifyInside s i r
    | none => classifyUnmapped s

/-! ### Segments (R8, R36, R66) -/

/-- The parts of an address range cut after its first `room` words (R8). -/
def pieces (room : Nat) (address : Addr) (op : Op) : List (Addr × Op) :=
  if opLength op ≤ room then [(address, op)]
  else [(address, opTake room op), (address + BitVec.ofNat 32 (8 * room), opDrop room op)]

/-- The offset of an address in an aperture (R36, R66). -/
def viewOffset (base : Nat) (address : Addr) : Nat := address.toNat - apertureStart base

/-- The place of a sample segment: its backing block, its first word in the block, and whether it is
full (R36, R42). -/
def samplePlace (base : Nat) (backing : Addr) (depth : Nat) (mask : BitVec 16) (address : Addr) (op : Op) :
    Place :=
  let o := viewOffset base address
  .sample ⟨backing + BitVec.ofNat 32 (o / Config.blockBytes * (4 * depth)), depth⟩
    (o % Config.blockBytes / 8)
    (match op with
      | .read _ => false
      | .write ws => fullSegment mask ws)

/-- A segment in progress. -/
def freshSegment (place : Addr → Op → Place) (piece : Addr × Op) : Segment :=
  ⟨piece.1, piece.2, place piece.1 piece.2, .inProgress, .plain, []⟩

/-- The segments of a performed request (R8). -/
def cutSegments (copy : Option ApertureCopy) (r : Request) : List Segment :=
  match copy with
  | some ⟨_, base, .sample backing _ depth mask⟩ =>
    (pieces (8 - viewOffset base r.address % Config.blockBytes / 8) r.address r.op).map
      (freshSegment (samplePlace base backing depth mask))
  | some ⟨_, base, .packet _ _⟩ =>
    (pieces (Config.slotWords - slotWord base r.address) r.address r.op).map
      (freshSegment fun a _ => .packet (slotAddress base a) (slotWord base a))
  | some ⟨_, _, .raw⟩ | none => [freshSegment (fun _ _ => .raw) (r.address, r.op)]

/-- The segments of a request as its verdict has it: none unless it is performed (R7). -/
def segmentsFor (v : Verdict) (r : Request) : List Segment :=
  match v.disposal with
  | .performed => cutSegments v.aperture r
  | .illFormed | .refused => []

/-! ### The conditions for taking (R4) -/

/-- A segment that needs a new merge entry: a partial write segment whose block has none (R4). -/
def needsEntry (s : State) (g : Segment) : Bool :=
  match g.place, g.op with
  | .sample b _ full, .write _ => !full && (mergeOf s b).isNone
  | _, _ => false

/-- The intake may take a request (R4). -/
def canTake (s : State) (source : Source) (r : Request) : Bool :=
  decide (s.pendingList.length < Config.pendingLimit)
    && !ownerParked s (ownerOf source r.initiator)
    && decide (s.mergeTable.length
        + ((segmentsFor (classify s source r) r).filter (needsEntry s)).length ≤ Config.mergeLimit)

/-! ### Taking (R5, R8) -/

/-- A segment outside the sample views is handed (R8). -/
def handPiece (p : PendingEntry) (s : State) (item : Segment × Nat) : State :=
  let ref : SegRef := ⟨p.id, item.2⟩
  match item.1.place with
  | .raw => handAccess ⟨accessFor p.request item.1.address item.1.op, .segment ref .lower⟩ s
  | .packet slot first => handPacket p ref item.1 slot first s
  | .sample _ _ _ => s

/-- The segments of a request are handed in address order (R8). -/
def handSegments (p : PendingEntry) (s : State) : State :=
  match p.segments, sampleCopy p with
  | [], _ => s
  | _ :: _, some _ => handSamples p s
  | g :: rest, none => (g :: rest).zipIdx.foldl (handPiece p) s

/-- The record of a request's form or classification is produced (R3, R21, R22, R24). -/
def recordVerdict (v : Verdict) (r : Request) (s : State) : State :=
  match v.record with
  | none => s
  | some kind =>
    offer (plainRecord s kind r.initiator (opKind r.op) r.address (v.aperture.map (·.number))) s

/-- A request is taken: its pending-list entry is made, and it is classified and its segments are handed
(R5). -/
def takeRequest (source : Source) (r : Request) (s : State) : State :=
  let v := classify s source r
  let p : PendingEntry := ⟨s.taken, source, r, v.disposal, v.aperture, segmentsFor v r⟩
  let s := recordVerdict v r s
  let s := { s with
    pendingList := s.pendingList ++ [p], taken := s.taken + 1, lastSource := source }
  handSegments p s

/-- The request at the head of the upstream port, when it may be taken (R4, R6). -/
def readyUpstream (s : State) : Option Request :=
  match s.upstream with
  | r :: _ => if canTake s .upstream r then some r else none
  | [] => none

/-- The job engine's request, presented and not taken, when it may be taken (R4, R6). -/
def readyJob (s : State) : Option JobRun :=
  match s.run with
  | some run => if !run.taken && canTake s .job run.request then some run else none
  | none => none

/-- The head of the upstream port is taken. -/
def takeUpstream (r : Request) (s : State) : State :=
  takeRequest .upstream r { s with upstream := s.upstream.tail }

/-- The job engine's request is taken. -/
def takeJob (run : JobRun) (s : State) : State :=
  takeRequest .job run.request { s with run := some { run with taken := true } }

/-- The arbiter takes from the one source that is ready, or from the one it did not take from last
(R6); with none ready nothing is taken. -/
def arbitrate (s : State) : State :=
  match readyUpstream s, readyJob s, s.lastSource with
  | some r, none, _ => takeUpstream r s
  | some r, some _, .job => takeUpstream r s
  | some _, some run, .upstream => takeJob run s
  | none, some run, _ => takeJob run s
  | none, none, _ => s

/-- TAKE_REQUEST (R5): the arrivals join the upstream port, and the intake takes one request. -/
def execTakeRequest (arrivals : List Request) (s : State) : Host.Outcome State Fault Refusal :=
  .next (whenRunning (fun s => arbitrate (settled s)) { s with upstream := s.upstream ++ arrivals })

/-! ### Release (R11) -/

/-- The oldest unreleased entry of an order (R11). -/
def oldestOf (s : State) (o : Owner) : Option PendingEntry :=
  s.pendingList.find? fun e => decide (entryOwner e = o)

/-- A response leaves at the upstream port (R2, R11). -/
def deliverUpstream (r : Response) (s : State) : State :=
  { s with delivered := s.delivered.set r.initiator (s.delivered[r.initiator] ++ [r]) }

/-- A response goes to the source of its request (R11). -/
def deliverResponse (e : PendingEntry) (st : Status) (s : State) : State :=
  match e.source with
  | .upstream => deliverUpstream (responseOf e st) s
  | .job => jobResponse st (entryData e st) (entryAperture e) s

/-- The oldest entry of an order is released if it is answerable, and freed (R11). -/
def releaseOldest (o : Owner) (s : State) : State :=
  match oldestOf s o with
  | none => s
  | some e =>
    match entryStatus e with
    | none => s
    | some st =>
      deliverResponse e st { s with pendingList := s.pendingList.filter fun x => x.id != e.id }

/-- RELEASE_RESPONSE (R11). -/
def execReleaseResponse (owner : Owner) (s : State) : Host.Outcome State Fault Refusal :=
  .next (whenRunning (fun s => releaseOldest owner (settled s)) s)

end Sys2Proof.Machine
end

