-- ==== Sys2Proof/Machine/Answers.lean ====
section
/-! DEFINITION. The memory port's issue of accesses (R12) and the matching of answers (R13). -/

namespace Sys2Proof.Machine

/-- The access that is issued next, and what then waits: the oldest, or the second of two handed over
together (R12, log 6). -/
def nextAccess (swap : Bool) : List Waiting → Option (Access × List Waiting)
  | [] => none
  | [w] => some (w.access, [])
  | w :: v :: rest =>
    if swap && w.paired then some (v.access, { w with paired := false } :: rest)
    else some (w.access, v :: rest)

/-- An access is issued and joins the list of outstanding accesses (R12, R13). -/
def issueNext (swap : Bool) (s : State) : State :=
  match nextAccess swap s.waiting with
  | none => s
  | some (a, rest) => { s with waiting := rest, outstanding := s.outstanding ++ [a] }

/-- ISSUE_ACCESS (R12). -/
def execIssueAccess (swap : Bool) (s : State) : Host.Outcome State Fault Refusal :=
  .next (whenRunning (fun s => issueNext swap (settled s)) s)

/-- The answer to an access of a segment, by what the segment waits for (R13). -/
def answerSegment (ref : SegRef) (half : Half) (access : Request) (answer : Answer) (s : State) : State :=
  match segmentOf s ref with
  | none => s
  | some (p, g) =>
    match g.work with
    | .plain => answerPlain p g ref access answer s
    | .direct io => answerDirect p g ref io half access answer s
    | .clear plan => answerClear p g ref plan access answer s
    | .unhanded | .merging => s

/-- A matched answer is handed to the access's handler; the answer to an absorbed access is discarded
(R13). -/
def handleAnswer (a : Access) (answer : Answer) (s : State) : State :=
  match a.handler with
  | .segment ref half => answerSegment ref half a.record answer s
  | .header ref =>
    match segmentOf s ref with
    | none => s
    | some (p, g) => answerHeader p g ref a.record answer s
  | .merge b half =>
    match mergeOf s b with
    | none => s
    | some e => answerMerge e half a.record answer s
  | .absorbed => s

/-- An answer is matched to the oldest outstanding access, or discarded when there is none (R13). -/
def matchAnswer (answer : Answer) (s : State) : State :=
  match s.outstanding with
  | [] => s
  | a :: rest => handleAnswer a answer { s with outstanding := rest }

/-- MEMORY_ANSWER (R13). -/
def execMemoryAnswer (answer : Answer) (s : State) : Host.Outcome State Fault Refusal :=
  .next (whenRunning (fun s => matchAnswer answer (settled s)) s)

end Sys2Proof.Machine
end

