-- ==== Sys2Proof/Machine/Port.lean ====
section
/-! DEFINITION. Select periods (R174, R175, R180): read periods, request periods that name no command,
and the frame of every command's execution. -/

namespace Sys2Proof.Machine

/-- A select period ends that the part ignores: FFh on every byte (R180), also on the bytes after the
release of the reset input, which R180 leaves open: the model's choice (log 34). -/
def ignorePeriod (n : Nat) (s : State) : State :=
  { s with selectIgnored := false, miso := List.replicate n 0xFF }

/-- The part ignores a select period that ends under reset, or that was under way at its release (R180,
log 24). -/
def ignoring (s : State) : Bool := s.inReset || s.selectIgnored

/-- A request period of `n` bytes ends: ignored, or answered by what the frame asks (R174, R175). -/
def requestPeriod (n : Nat) (reply : State → Reply) (s : State) : State :=
  if ignoring s then ignorePeriod n s else answerPeriod n (firstOut s) (reply (settled s))

/-- A read period of `n` whole bytes ends (R174). -/
def endRead (n : Nat) (s : State) : State :=
  let frame := s.heldResponse.getD []
  let whole := decide (frame.length ≤ n - 1)
  { s with
    miso := firstOut s :: (frame.take (n - 1) ++ List.replicate (n - 1 - frame.length) 0xFF)
    readPosition := if whole then 0 else n - 1
    heldResponse := if whole then none else s.heldResponse }

/-- READ_PERIOD (R174): with fewer than 8 edges there is no first byte and nothing changes. -/
def execReadPeriod (edges : Nat) (s : State) : Host.Outcome State Fault Refusal :=
  .next
    (if ignoring s then ignorePeriod (edges / 8) s
      else if edges < 8 then s
      else endRead (edges / 8) (settled s))

/-- BAD_FRAME (R175): a period that fails a check. A period that does not is no event of this name
(log 29). -/
def execBadFrame (period : Period) (s : State) : Host.Outcome State Fault Refusal :=
  .next
    (if examine period = .badFrame then requestPeriod period.bytes.length (refuse .badFrame) s else s)

/-- BAD_COMMAND (R175): a good frame whose code names no command. A frame that is not is no event of
this name (log 29). -/
def execBadCommand (code : Byte) (params : List Byte) (s : State) : Host.Outcome State Fault Refusal :=
  .next
    (if (Instr.badCommand code params).wf then
      requestPeriod (3 + params.length) (refuse .badCommand) s
    else s)

end Sys2Proof.Machine
end

