-- ==== Sys2Proof/Machine/ApertureCommands.lean ====
section
/-! DEFINITION. The commands of the path settings (R25), the aperture table (R28 to R33) and the initiator
write masks (R27). -/

namespace Sys2Proof.Machine

/-! ### Path settings (R25) -/

/-- WRITE_PATH's reply (R25). -/
def writePathReply (action limit : Byte) (s : State) : Reply :=
  match unmappedOf action with
  | none => refuse .badParameter s
  | some a =>
    if limit = 0 then refuse .badParameter s
    else done { s with unmapped := a, idleLimit := limit.toNat }

/-- WRITE_PATH (R25). -/
def execWritePath (action limit : Byte) (s : State) : Host.Outcome State Fault Refusal :=
  .next (requestPeriod 5 (writePathReply action limit) s)

/-- The settings and the occupancy of the four structures (R25). -/
def pathData (s : State) : List Byte :=
  [unmappedByte s.unmapped, natByte s.idleLimit, natByte s.pendingList.length, natByte (parkedCount s),
    natByte s.tracker.length, natByte s.mergeTable.length]

/-- READ_PATH (R25). -/
def execReadPath (s : State) : Host.Outcome State Fault Refusal :=
  .next (requestPeriod 3 (fun s => ⟨.ok, pathData s, s⟩) s)

/-! ### WRITE_APERTURE (R28 to R32) -/

/-- The last byte after a sample view's backing region (R18). -/
def backingEnd (a : Aperture) : Nat := a.backing.toNat + (a.limit - a.base) * 256 * a.depth

/-- The values of R18 for the lane width. -/
def widthAllowed (w : Byte) : Bool := w == 8 || w == 10 || w == 12 || w == 16

/-- The values of R18 for the stored depth. -/
def depthAllowed (d : Byte) : Bool := d == 8 || d == 10 || d == 12

/-- The fields of every view, those of one view stored as zero (R28). -/
def baseEntry (p : ApertureParams) (valid : Bool) (view : View) (violation : Violation) : Aperture :=
  { valid := valid, base := p.base.toNat, limit := p.limit.toNat, view := view
    writeSet := p.writeSet, readSet := p.readSet, violation := violation
    backing := 0, width := 0, depth := 0, saturation := 0, clearRead := 0, unlisted := .clear }

/-- The fields of its own view joined to an entry, each checked (R28). -/
def withViewFields (p : ApertureParams) (a : Aperture) : Option Aperture :=
  match a.view with
  | .raw => some a
  | .sample =>
    let b := { a with backing := p.backing, width := p.width.toNat, depth := p.depth.toNat }
    if widthAllowed p.width && depthAllowed p.depth && decide (p.backing.toNat % 8 = 0)
        && decide (backingEnd b ≤ 2 ^ 32) then some b
    else none
  | .packet =>
    match clearOrNullOf p.unlisted with
    | some u => some { a with clearRead := p.clearRead, unlisted := u }
    | none => none

/-- The entry number and contents that WRITE_APERTURE carries, none where a parameter is bad (R28). A
limit of 0 with valid 0 is accepted, as R28's list has it, though R18 gives the limit's range from 1: the
model's choice (log 35). -/
def apertureEdit (p : ApertureParams) : Option (ApertureNo × Aperture) :=
  match apertureOfByte p.entry, yesNo p.valid, viewOf p.view, violationOf p.violation with
  | some i, some valid, some view, some violation =>
    if p.base.toNat ≤ 0xFFFFF && decide (p.limit.toNat ≤ 0x100000)
        && (!valid || decide (p.base.toNat < p.limit.toNat)) then
      (withViewFields p (baseEntry p valid view violation)).map fun a => (i, a)
    else none
  | _, _, _, _ => none

/-- Two ranges share a granule (R29). -/
def rangesMeet (a b : Aperture) : Bool :=
  decide (max a.base b.base < min a.limit b.limit)

/-- A sample entry's backing region shares a byte with its own range (R29). -/
def backingInside (a : Aperture) : Bool :=
  decide (max a.backing.toNat (apertureStart a.base) < min (backingEnd a) (apertureStart a.limit))

/-- What R29 asks of a valid entry by itself. -/
def entryConflict (a : Aperture) : Bool :=
  match a.view with
  | .raw => false
  | .sample => backingInside a || decide (a.width < a.depth)
  | .packet => decide ((a.limit - a.base) % 3 ≠ 0)

/-- The table as it would stand breaks a rule (R29). -/
def apertureConflict (s : State) (i : ApertureNo) (a : Aperture) : Bool :=
  a.valid &&
    (entryConflict a ||
      (List.finRange 12).any fun j => decide (j ≠ i) && s.apertures[j].valid && rangesMeet a s.apertures[j])

/-- The merge table holds an entry of an aperture (R30). -/
def apertureBusy (s : State) (i : ApertureNo) : Bool := s.mergeTable.any fun m => decide (m.aperture = i)

/-- An accepted edit: the aperture's tracker entries close as abandoned, reason RECONFIGURED, and the
entry takes its new contents with saturation count 0 (R31 to R33). -/
def storeAperture (i : ApertureNo) (a : Aperture) (s : State) : State :=
  let s := abandonWhere .reconfigured (fun e => decide (e.aperture = i)) s
  { s with apertures := s.apertures.set i a }

/-- WRITE_APERTURE's reply (R28 to R32). -/
def writeApertureReply (p : ApertureParams) (s : State) : Reply :=
  match apertureEdit p with
  | none => refuse .badParameter s
  | some (i, a) =>
    if apertureConflict s i a then refuse .conflict s
    else if apertureBusy s i then refuse .busy s
    else done (storeAperture i a s)

/-- WRITE_APERTURE (R28). -/
def execWriteAperture (params : ApertureParams) (s : State) : Host.Outcome State Fault Refusal :=
  .next (requestPeriod 26 (writeApertureReply params) s)

/-! ### READ_APERTURE (R33) -/

/-- Every field of an entry, in the order of R18 (R33, R177). -/
def apertureData (a : Aperture) : List Byte :=
  [boolByte a.valid] ++ leBytes 3 a.base ++ leBytes 3 a.limit ++ [viewByte a.view]
    ++ fieldBytes 2 a.writeSet ++ fieldBytes 2 a.readSet ++ [violationByte a.violation]
    ++ fieldBytes 4 a.backing ++ [natByte a.width, natByte a.depth] ++ leBytes 2 a.saturation
    ++ fieldBytes 2 a.clearRead ++ [clearOrNullByte a.unlisted]

/-- An entry's saturation count becomes 0 (R33). -/
def clearSaturation (i : ApertureNo) (s : State) : State :=
  { s with apertures := s.apertures.set i { s.apertures[i] with saturation := 0 } }

/-- READ_APERTURE's reply (R33). -/
def readApertureReply (entry clear : Byte) (s : State) : Reply :=
  match apertureOfByte entry, yesNo clear with
  | some i, some c => ⟨.ok, apertureData s.apertures[i], if c then clearSaturation i s else s⟩
  | _, _ => refuse .badParameter s

/-- READ_APERTURE (R33). -/
def execReadAperture (entry clear : Byte) (s : State) : Host.Outcome State Fault Refusal :=
  .next (requestPeriod 5 (readApertureReply entry clear) s)

/-! ### Masks (R27) -/

/-- WRITE_MASK's reply (R27). -/
def writeMaskReply (initiator : Byte) (mask : BitVec 16) (s : State) : Reply :=
  match initiatorOfByte initiator with
  | some i => done { s with masks := s.masks.set i mask }
  | none => refuse .badParameter s

/-- WRITE_MASK (R27). -/
def execWriteMask (initiator : Byte) (mask : BitVec 16) (s : State) : Host.Outcome State Fault Refusal :=
  .next (requestPeriod 6 (writeMaskReply initiator mask) s)

/-- READ_MASK's reply (R27). -/
def readMaskReply (initiator : Byte) (s : State) : Reply :=
  match initiatorOfByte initiator with
  | some i => ⟨.ok, fieldBytes 2 s.masks[i], s⟩
  | none => refuse .badParameter s

/-- READ_MASK (R27). -/
def execReadMask (initiator : Byte) (s : State) : Host.Outcome State Fault Refusal :=
  .next (requestPeriod 4 (readMaskReply initiator) s)

end Sys2Proof.Machine
end

