-- ==== Sys2Proof/Machine/ControlCommands.lean ====
section
/-! DEFINITION. The control commands: PATH_RESET (R15, R16, R178) and KEY_PURGE (R126, R178). -/

namespace Sys2Proof.Machine

/-- A taken and unreleased request is answered RESET: an upstream response leaves the part, and the
running job's is taken up by the end of its run (R15, R161). -/
def resetAnswer (s : State) (e : PendingEntry) : State :=
  match e.source with
  | .upstream => deliverUpstream (responseOf e .reset) s
  | .job => s

/-- Every taken and unreleased request is answered RESET in the order of taking, which keeps each
initiator's order, and freed (R15). -/
def resetRequests (s : State) : State :=
  { s.pendingList.foldl resetAnswer s with pendingList := [] }

/-- Accesses not yet issued are dropped, and those issued are marked for absorption (R16). -/
def resetAccesses (s : State) : State :=
  { s with
    waiting     := []
    outstanding := s.outstanding.map fun a => { a with handler := .absorbed } }

/-- A path reset, in the order of R178. -/
def pathReset (s : State) : State :=
  let s := resetAccesses (resetRequests s)
  let s := emptyTracker { s with mergeTable := [] }
  setCause .pathResetDone (resetJobs s)

/-- PATH_RESET (R15, R178). -/
def execPathReset (s : State) : Host.Outcome State Fault Refusal :=
  .next (requestPeriod 3 (fun s => done (pathReset s)) s)

/-- KEY_PURGE (R126, R178): carried out whether or not the purge input is held. -/
def execKeyPurge (s : State) : Host.Outcome State Fault Refusal :=
  .next (requestPeriod 3 (fun s => done (keyPurge s)) s)

end Sys2Proof.Machine
end

