-- ==== Sys2Proof/Machine/Inputs.lean ====
section
/-! DEFINITION. The inputs of the part: the reference (R132 to R136), the frame and window inputs (R140,
R141, R160), the purge input (R179), the reset input and power-up (R180). While the reset input is
asserted the levels of the inputs are followed and nothing else happens. -/

namespace Sys2Proof.Machine

/-! ### Levels -/

/-- The presence indication (R132). -/
def setReference (present : Bool) (s : State) : State :=
  { s with time := { s.time with refPresent := present } }

/-- The window level (R141). -/
def setWindow (isOpen : Bool) (s : State) : State :=
  { s with time := { s.time with windowOpen := isOpen } }

/-- The qualified level of the purge input (R179). -/
def setPurge (held : Bool) (s : State) : State := { s with purgeHeld := held }

/-- An event of an input: its level is followed, and outside reset the event acts (R179, R180). -/
def inputEvent (level : State → State) (f : State → State) (s : State) : State :=
  if s.inReset then level s else f (level (settled s))

/-! ### The reference (R132 to R136) -/

/-- The reference is lost: HOLDOVER from LOCKED, and a count of 0 in ACQUIRING (R133 to R135). -/
def loseReference (s : State) : State :=
  match s.time.state with
  | .locked =>
    setCause .refLost { s with time := { s.time with state := .holdover, countdown := s.time.limit } }
  | .acquiring => { s with time := { s.time with qualification := 0 } }
  | .local | .holdover | .frozen => s

/-- The reference returns: ACQUIRING from HOLDOVER and FROZEN, the hold as it stands (R133, R135,
R136). -/
def regainReference (s : State) : State :=
  match s.time.state with
  | .holdover | .frozen =>
    { s with time := { s.time with state := .acquiring, qualification := 0, countdown := 0 } }
  | .local | .acquiring | .locked => s

/-- REFERENCE_LOST (R133): an event when the indication changes from present to absent. -/
def execReferenceLost (s : State) : Host.Outcome State Fault Refusal :=
  .next (if s.time.refPresent then inputEvent (setReference false) loseReference s else s)

/-- REFERENCE_RETURNED (R133): an event when the indication changes from absent to present. -/
def execReferenceReturned (s : State) : Host.Outcome State Fault Refusal :=
  .next (if s.time.refPresent then s else inputEvent (setReference true) regainReference s)

/-! ### Frame and window (R140, R141, R160) -/

/-- FRAME_START (R140): the FRAME trigger, and a selection (R148, R151). -/
def execFrameStart (s : State) : Host.Outcome State Fault Refusal :=
  .next (inputEvent id (fun s => select (deliver .frame s)) s)

/-- WINDOW_OPENING (R141): an event when the window was closed; a selection (R151). -/
def execWindowOpening (s : State) : Host.Outcome State Fault Refusal :=
  .next (if s.time.windowOpen then s else inputEvent (setWindow true) select s)

/-- WINDOW_CLOSING (R141, R160): an event when the window was open. -/
def execWindowClosing (s : State) : Host.Outcome State Fault Refusal :=
  .next (if s.time.windowOpen then inputEvent (setWindow false) windowCloses s else s)

/-! ### The purge input (R179) -/

/-- PURGE_ASSERTION (R179): a change of the qualified level to asserted makes a key purge (R126). -/
def execPurgeAssertion (s : State) : Host.Outcome State Fault Refusal :=
  .next (if s.purgeHeld then s else inputEvent (setPurge true) keyPurge s)

/-- PURGE_RELEASE (R179): the level changes, and nothing else. -/
def execPurgeRelease (s : State) : Host.Outcome State Fault Refusal :=
  .next (if s.purgeHeld then inputEvent (setPurge false) id s else s)

/-! ### Reset (R180) -/

/-- Every block in its power-on state, the reset input asserted. What the interconnect has presented and
received and the waiting commands are outside the part; the input levels are followed (R180, logs 4, 5
and 9). -/
def powerOn (s : State) : State :=
  { State.reset with
    pending   := s.pending
    upstream  := s.upstream
    delivered := s.delivered
    time      := Timebase.reset s.time.refPresent s.time.windowOpen
    purgeHeld := s.purgeHeld
    inReset   := true }

/-- The end of power-on reset, the inputs standing at some levels (R132, R141, R179, R180). A select
period under way at the release is ignored to its end: R180 says so of one that began under the reset,
and of one that began before the assertion it is the model's choice (log 24). -/
def endReset (levels : Levels) (s : State) : State :=
  { s with
    time          := { s.time with refPresent := levels.refPresent, windowOpen := levels.windowOpen }
    purgeHeld     := levels.purgeHeld
    selectIgnored := levels.selectUnderway
    inReset       := false }

/-- RESET_ASSERTION (R180). -/
def execResetAssertion (s : State) : Host.Outcome State Fault Refusal := .next (powerOn s)

/-- RESET_RELEASE (R180): an event when the input was asserted. -/
def execResetRelease (levels : Levels) (s : State) : Host.Outcome State Fault Refusal :=
  .next (if s.inReset then endReset levels s else s)

/-- POWER_UP (R180): acts as an assertion of the reset input, which RESET_RELEASE ends (log 10). -/
def execPowerUp (s : State) : Host.Outcome State Fault Refusal := .next (powerOn s)

end Sys2Proof.Machine
end

