-- ==== Sys2Proof/Machine/JobCommands.lean ====
section
/-! DEFINITION. The commands of the job engine (R145 to R147, R150). -/

namespace Sys2Proof.Machine

/-! ### WRITE_JOB (R145, R146) -/

/-- The kinds that use the source base (R143). -/
def usesSource : JobKind → Bool
  | .convert | .digest => true
  | .fill | .sweep => false

/-- The kinds that use the target base (R143). -/
def usesTarget : JobKind → Bool
  | .fill | .convert | .sweep => true
  | .digest => false

/-- A base used by the kind is word-aligned and its range ends by FFFFFFFFh (R145). -/
def baseAllowed (used : Bool) (base : Addr) (length : Nat) : Bool :=
  !used || (decide (base.toNat % 8 = 0) && decide (base.toNat + 8 * length ≤ 2 ^ 32))

/-- A SWEEP's target is on a multiple of 64 and its length a multiple of 24 (R145). -/
def sweepAllowed (kind : JobKind) (target : Addr) (length : Nat) : Bool :=
  decide (kind ≠ .sweep) || (decide (target.toNat % 64 = 0) && decide (length % 24 = 0))

/-- The slot and configuration WRITE_JOB carries, what its kind does not use stored as zero; none where
a parameter is bad (R145). -/
def jobEdit (p : JobParams) : Option (JobNo × JobConfig) :=
  match jobOfByte p.slot, yesNo p.enable, jobKindOf p.kind, triggerOf p.trigger p.triggerOf,
      yesNo p.windowBound with
  | some j, some enable, some kind, some trigger, some bound =>
    let n := p.length.toNat
    if p.boundary.toNat ≤ 6 && decide (n ≠ 0) && baseAllowed (usesSource kind) p.source n
        && baseAllowed (usesTarget kind) p.target n && sweepAllowed kind p.target n then
      some (j, {
        enable      := enable
        kind        := kind
        source      := if usesSource kind then p.source else 0
        target      := if usesTarget kind then p.target else 0
        length      := n
        pattern     := if kind = .fill then p.pattern else 0
        trigger     := trigger
        windowBound := bound })
    else none
  | _, _, _, _, _ => none

/-- A slot that holds a run (R144). -/
def holdsRun : JobState → Bool
  | .pending | .running | .suspended => true
  | .disabled | .idle => false

/-- A busy slot's configuration would change in more than its enable (R145). -/
def jobBusy (v : JobSlot) (c : JobConfig) : Bool :=
  holdsRun v.state && decide ({ c with enable := v.config.enable } ≠ v.config)

/-- The enable written to 0 reaches a RUNNING slot: a request that may be withdrawn is, and the run ends
ABORTED at once; otherwise it goes on to its next stopping point (R146). -/
def disableRunning (j : JobNo) (s : State) : State :=
  match s.run with
  | none => s
  | some r => if withdrawable r then select (abortRun j s) else s

/-- The enable acts on the slot according to its state (R146). -/
def actOnEnable (j : JobNo) (s : State) : State :=
  let v := s.jobs[j]
  match v.config.enable, v.state with
  | true, .disabled => putJob j { v with state := .idle } s
  | true, _ => s
  | false, .disabled => s
  | false, .idle => putJob j { v with state := .disabled } s
  | false, .pending => putJob j { v with state := .disabled } s
  | false, .suspended =>
    setCause .jobAborted (putJob j { v with state := .disabled, result := resultOf v .aborted none } s)
  | false, .running => disableRunning j s

/-- WRITE_JOB's reply (R145, R146). -/
def writeJobReply (p : JobParams) (s : State) : Reply :=
  match jobEdit p with
  | none => refuse .badParameter s
  | some (j, c) =>
    if jobBusy s.jobs[j] c then refuse .busy s
    else
      done (actOnEnable j
        { putJob j { s.jobs[j] with config := c } s with boundary := p.boundary.toNat })

/-- WRITE_JOB (R145). -/
def execWriteJob (params : JobParams) (s : State) : Host.Outcome State Fault Refusal :=
  .next (requestPeriod 29 (writeJobReply params) s)

/-! ### READ_JOB (R147) -/

/-- The configuration fields, in the order of R143 (R177). -/
def configData (c : JobConfig) : List Byte :=
  [boolByte c.enable, jobKindByte c.kind] ++ fieldBytes 4 c.source ++ fieldBytes 4 c.target
    ++ leBytes 3 c.length ++ fieldBytes 8 c.pattern ++ triggerBytes c.trigger ++ [boolByte c.windowBound]

/-- The state, the cursor as its three values, and the overflow flag; the running digest register and
the swept count are zero where the kind does not use them (R143, R177). -/
def progressData (v : JobSlot) : List Byte :=
  [jobStateByte v.state] ++ leBytes 3 v.cursor
    ++ fieldBytes 4 (if v.config.kind = .digest then v.digest else 0)
    ++ leBytes 3 (if v.config.kind = .sweep then v.swept else 0) ++ [boolByte v.overflow]

/-- The result record, in the order of R143 (R177). -/
def resultData (r : JobResult) : List Byte :=
  [jobStatusByte r.status] ++ leBytes 3 r.words ++ leBytes 3 r.swept ++ fieldBytes 4 r.digest
    ++ match r.fault with
      | some (st, a) => faultStatusByte st :: fieldBytes 4 a
      | none => 0 :: leBytes 4 0

/-- Every field of a slot, and B, the remembered slot and whether the engine is free (R147, R177). -/
def jobData (s : State) (j : JobNo) : List Byte :=
  configData s.jobs[j].config ++ progressData s.jobs[j] ++ resultData s.jobs[j].result
    ++ [natByte s.boundary, natByte s.remembered.val, boolByte (engineFree s)]

/-- READ_JOB's reply (R147). -/
def readJobReply (slot clear : Byte) (s : State) : Reply :=
  match jobOfByte slot, yesNo clear with
  | some j, some c =>
    ⟨.ok, jobData s j, if c then putJob j { s.jobs[j] with overflow := false } s else s⟩
  | _, _ => refuse .badParameter s

/-- READ_JOB (R147). -/
def execReadJob (slot clear : Byte) (s : State) : Host.Outcome State Fault Refusal :=
  .next (requestPeriod 5 (readJobReply slot clear) s)

/-! ### TRIGGER_JOB (R150) -/

/-- TRIGGER_JOB's reply: FFh is ALL (R150, R177); a selection follows (R151). -/
def triggerJobReply (slot : Byte) (s : State) : Reply :=
  match jobOfByte slot with
  | some j => done (select (triggerSlot j s))
  | none =>
    if slot = 0xFF then done (select (deliver .command s)) else refuse .badParameter s

/-- TRIGGER_JOB (R150). -/
def execTriggerJob (slot : Byte) (s : State) : Host.Outcome State Fault Refusal :=
  .next (requestPeriod 4 (triggerJobReply slot) s)

end Sys2Proof.Machine
end

