-- ==== Sys2Proof/Machine/ReportCommands.lean ====
section
/-! DEFINITION. The commands of the capture queue and the event unit (R166 to R171). -/

namespace Sys2Proof.Machine

/-! ### READ_CAPTURE and CLEAR_OVERRUN (R166, R167) -/

/-- READ_CAPTURE's reply: the oldest record leaves the queue and is returned with the number left and
the overrun indication, or EMPTY with 0 left (R166, 11 CAPTURE RECORD AS RETURNED). -/
def readCaptureReply (s : State) : Reply :=
  match s.capture with
  | [] => ⟨.empty, [0, boolByte s.overrun], s⟩
  | r :: rest =>
    ⟨.ok, recordBytes r ++ [natByte rest.length, boolByte s.overrun], { s with capture := rest }⟩

/-- READ_CAPTURE (R166). -/
def execReadCapture (s : State) : Host.Outcome State Fault Refusal :=
  .next (requestPeriod 3 readCaptureReply s)

/-- CLEAR_OVERRUN (R167). -/
def execClearOverrun (s : State) : Host.Outcome State Fault Refusal :=
  .next (requestPeriod 3 (fun s => done { s with overrun := false }) s)

/-! ### READ_EVENTS and CLEAR_EVENTS (R168) -/

/-- Every flag, every enable, the raised groups and the event line (R168, R177). -/
def eventData (s : State) : List Byte :=
  causeBytes (flagOf s) ++ causeBytes (enableOf s) ++ [raisedByte s, boolByte (eventLine s)]

/-- READ_EVENTS (R168). -/
def execReadEvents (s : State) : Host.Outcome State Fault Refusal :=
  .next (requestPeriod 3 (fun s => ⟨.ok, eventData s, s⟩) s)

/-- CLEAR_EVENTS's reply (R168). -/
def clearEventsReply (path keys jobs timebase : Byte) (s : State) : Reply :=
  match namedCauses .path path, namedCauses .keys keys, namedCauses .jobs jobs,
      namedCauses .timebase timebase with
  | some a, some b, some c, some d =>
    done ((a ++ b ++ c ++ d).foldl (fun s cause => clearCause cause s) s)
  | _, _, _, _ => refuse .badParameter s

/-- CLEAR_EVENTS (R168). -/
def execClearEvents (path keys jobs timebase : Byte) (s : State) : Host.Outcome State Fault Refusal :=
  .next (requestPeriod 7 (clearEventsReply path keys jobs timebase) s)

/-! ### WRITE_EVENT_ENABLES and ACK_GROUP (R169, R171) -/

/-- WRITE_EVENT_ENABLES's reply (R169). -/
def writeEventEnablesReply (group set : Byte) (s : State) : Reply :=
  match groupOf group with
  | none => refuse .badParameter s
  | some g =>
    match namedCauses g set with
    | none => refuse .badParameter s
    | some causes => done (setEnables g causes s)

/-- WRITE_EVENT_ENABLES (R169). -/
def execWriteEventEnables (group set : Byte) (s : State) : Host.Outcome State Fault Refusal :=
  .next (requestPeriod 5 (writeEventEnablesReply group set) s)

/-- ACK_GROUP's reply (R171). -/
def ackGroupReply (group : Byte) (s : State) : Reply :=
  match groupOf group with
  | none => refuse .badParameter s
  | some g => done (acknowledge g s)

/-- ACK_GROUP (R171). -/
def execAckGroup (group : Byte) (s : State) : Host.Outcome State Fault Refusal :=
  .next (requestPeriod 4 (ackGroupReply group) s)

end Sys2Proof.Machine
end

