-- ==== Sys2Proof/Machine/ServiceCommands.lean ====
section
/-! DEFINITION. The commands of the service key table (R110 to R116, R120, R127). -/

namespace Sys2Proof.Machine

/-! ### WRITE_SERVICE and READ_SERVICE (R110, R111) -/

/-- The service and the unkeyed policy WRITE_SERVICE carries, none where a parameter is bad (R110). -/
def serviceEdit (p : ServiceParams) : Option (ServiceNo × ClearOrNull) :=
  match serviceOfByte p.service, clearOrNullOf p.policy with
  | some i, some policy =>
    let period := p.period.toNat
    let guard := p.guard.toNat
    if 10 ≤ period && decide (1 ≤ guard) && decide (guard ≤ 65534) && decide (p.limit.toNat ≤ 15)
        && decide (guard < period) then some (i, policy)
    else none
  | _, _ => none

/-- WRITE_SERVICE's reply: the four values are set, and a RETIRING slot that this makes due becomes
EMPTY (R110, R123). -/
def writeServiceReply (p : ServiceParams) (s : State) : Reply :=
  match serviceEdit p with
  | none => refuse .badParameter s
  | some (i, policy) =>
    done (retireBoth i (putService i { s.services[i] with
      period := p.period.toNat, guard := p.guard.toNat, limit := p.limit.toNat, policy := policy } s))

/-- WRITE_SERVICE (R110). -/
def execWriteService (params : ServiceParams) (s : State) : Host.Outcome State Fault Refusal :=
  .next (requestPeriod 10 (writeServiceReply params) s)

/-- What is returned of a key slot: its state, user count and retire age (R108, R111). -/
def slotData (k : KeySlot) : List Byte := [keyStateByte k.state, natByte k.users] ++ leBytes 2 k.age

/-- The whole context of a service, in the order of R111 (R177). -/
def serviceData (v : Service) : List Byte :=
  [serviceStateByte v.state] ++ leBytes 2 v.period ++ leBytes 2 v.guard
    ++ [natByte v.limit, clearOrNullByte v.policy] ++ leBytes 2 v.counter ++ [natByte v.extension]
    ++ [boolByte (keyWanted v)] ++ fieldBytes 4 v.scrambled ++ fieldBytes 4 v.nulled
    ++ slotData v.slotA ++ slotData v.slotB

/-- READ_SERVICE's reply (R111). -/
def readServiceReply (service : Byte) (s : State) : Reply :=
  match serviceOfByte service with
  | some i => ⟨.ok, serviceData s.services[i], s⟩
  | none => refuse .badParameter s

/-- READ_SERVICE (R111). -/
def execReadService (service : Byte) (s : State) : Host.Outcome State Fault Refusal :=
  .next (requestPeriod 4 (readServiceReply service) s)

/-! ### LOAD_KEY (R112 to R114, R127) -/

/-- LOAD_KEY's reply, the checks in the order of R112. -/
def loadKeyReply (service phase : Byte) (word : ControlWord) (s : State) : Reply :=
  match serviceOfByte service, phaseOf phase with
  | some i, some p =>
    let v := s.services[i]
    if s.purgeHeld then refuse .purgeHeld s
    else
      match (keySlot v p).state with
      | .active => refuse .activeSlot s
      | .retiring => refuse .slotBusy s
      | .empty | .ready =>
        done (afterLoad i p (putService i (withKeySlot p (loaded word (keySlot v p)) v) s))
  | _, _ => refuse .badParameter s

/-- LOAD_KEY (R112). -/
def execLoadKey (service phase : Byte) (word : ControlWord) (s : State) :
    Host.Outcome State Fault Refusal :=
  .next (requestPeriod 21 (loadKeyReply service phase word) s)

/-! ### STOP, START and FLIP (R115, R116, R120) -/

/-- STOP's reply (R116). -/
def stopReply (service : Byte) (s : State) : Reply :=
  match serviceOfByte service with
  | none => refuse .badParameter s
  | some i =>
    if s.services[i].state = .idle then refuse .state s
    else done (putService i (stopped s.services[i]) s)

/-- STOP (R116). -/
def execStop (service : Byte) (s : State) : Host.Outcome State Fault Refusal :=
  .next (requestPeriod 4 (stopReply service) s)

/-- START's reply, the checks in the order of R115. -/
def startReply (service phase : Byte) (s : State) : Reply :=
  match serviceOfByte service, phaseOf phase with
  | some i, some p =>
    let v := s.services[i]
    if v.state ≠ .idle then refuse .state s
    else if (keySlot v p).state ≠ .ready then refuse .noKey s
    else done (putService i (started p v) s)
  | _, _ => refuse .badParameter s

/-- START (R115). -/
def execStart (service phase : Byte) (s : State) : Host.Outcome State Fault Refusal :=
  .next (requestPeriod 5 (startReply service phase) s)

/-- FLIP's reply (R120). -/
def flipReply (service : Byte) (s : State) : Reply :=
  match serviceOfByte service with
  | none => refuse .badParameter s
  | some i =>
    let v := s.services[i]
    match v.state with
    | .idle => refuse .state s
    | .starved | .withholding => refuse .noKey s
    | .running => if nextState v = some .ready then done (flipService i s) else refuse .noKey s

/-- FLIP (R120). -/
def execFlip (service : Byte) (s : State) : Host.Outcome State Fault Refusal :=
  .next (requestPeriod 4 (flipReply service) s)

end Sys2Proof.Machine
end

