-- ==== Sys2Proof/Machine/StreamCommands.lean ====
section
/-! DEFINITION. The commands of the stream map (R80 to R82). -/

namespace Sys2Proof.Machine

/-- The treatment and the service of an entry agree: a service is present when the treatment is
SCRAMBLE, and absent otherwise (R79, R80). -/
def serviceAgrees (treatment : Treatment) (service : Option ServiceNo) : Bool :=
  decide (treatment = .scramble) == service.isSome

/-- The entry number and contents that WRITE_STREAM carries, none where a parameter is bad (R80). -/
def streamEdit (p : StreamParams) : Option (StreamNo × StreamEntry) :=
  match streamOfByte p.entry, yesNo p.valid, streamPidOf p.input, outputPidOf p.outputPresent p.output,
      optionalServiceOf p.servPresent p.service, treatmentOf p.treatment with
  | some i, some valid, some input, some output, some service, some treatment =>
    if serviceAgrees treatment service then some (i, ⟨valid, input, output, service, treatment⟩) else none
  | _, _, _, _, _, _ => none

/-- Two entries share an input PID or an effective output PID (R81). -/
def streamsMeet (a b : StreamEntry) : Bool :=
  a.input == b.input || effectiveOutput a == effectiveOutput b

/-- The map as it would stand holds two valid entries that share a PID (R81). -/
def streamDuplicate (s : State) (i : StreamNo) (e : StreamEntry) : Bool :=
  e.valid &&
    (List.finRange 48).any fun j => decide (j ≠ i) && s.streams[j].valid && streamsMeet e s.streams[j]

/-- WRITE_STREAM's reply (R80 to R82). -/
def writeStreamReply (p : StreamParams) (s : State) : Reply :=
  match streamEdit p with
  | none => refuse .badParameter s
  | some (i, e) =>
    if streamDuplicate s i e then refuse .duplicate s else done { s with streams := s.streams.set i e }

/-- WRITE_STREAM (R80). -/
def execWriteStream (params : StreamParams) (s : State) : Host.Outcome State Fault Refusal :=
  .next (requestPeriod 13 (writeStreamReply params) s)

/-- The fields of an entry, in the order of R79 (R82, R177). -/
def streamData (e : StreamEntry) : List Byte :=
  [boolByte e.valid] ++ fieldBytes 2 e.input ++ optionalBytes 2 (e.output.map (·.toNat))
    ++ optionalBytes 1 (e.service.map (·.val)) ++ [treatmentByte e.treatment]

/-- READ_STREAM's reply (R82). -/
def readStreamReply (entry : Byte) (s : State) : Reply :=
  match streamOfByte entry with
  | some i => ⟨.ok, streamData s.streams[i], s⟩
  | none => refuse .badParameter s

/-- READ_STREAM (R82). -/
def execReadStream (entry : Byte) (s : State) : Host.Outcome State Fault Refusal :=
  .next (requestPeriod 4 (readStreamReply entry) s)

end Sys2Proof.Machine
end

