-- ==== Sys2Proof/Machine/TimebaseCommands.lean ====
section
/-! DEFINITION. The commands of the timebase (R137 to R139). -/

namespace Sys2Proof.Machine

/-- The values of R130 for the prescale. -/
def prescaleAllowed (b : Byte) : Bool :=
  b == 1 || b == 2 || b == 4 || b == 8 || b == 16 || b == 32 || b == 64 || b == 128

/-- The source select WRITE_TIMEBASE carries, LOCAL 0 and REFERENCE 1 (R133, R177), as whether it is
REFERENCE; none where a parameter is bad (R137). -/
def timebaseEdit (p : TimebaseParams) : Option Bool :=
  if prescaleAllowed p.prescale && decide (p.divider ≠ 0) && decide (p.limit ≠ 0) then yesNo p.select
  else none

/-- The timebase in LOCAL: both counters 0 and the hold clear (R133). -/
def enterLocal (t : Timebase) : Timebase :=
  { t with state := .local, qualification := 0, countdown := 0, hold := false }

/-- The state and counters by the source select given (R137). -/
def selectSource (reference : Bool) (t : Timebase) : Timebase :=
  match reference, t.state with
  | false, .local => t
  | false, _ => enterLocal t
  | true, .local => { t with state := .acquiring, qualification := 0, countdown := 0 }
  | true, _ => t

/-- WRITE_TIMEBASE's reply (R137). -/
def writeTimebaseReply (p : TimebaseParams) (s : State) : Reply :=
  match timebaseEdit p with
  | none => refuse .badParameter s
  | some reference =>
    done { s with time := selectSource reference { s.time with
      prescale := p.prescale.toNat, divider := p.divider.toNat, limit := p.limit.toNat, division := 0 } }

/-- WRITE_TIMEBASE (R137). -/
def execWriteTimebase (params : TimebaseParams) (s : State) : Host.Outcome State Fault Refusal :=
  .next (requestPeriod 9 (writeTimebaseReply params) s)

/-- The source select: REFERENCE in every state but LOCAL (R133). -/
def sourceSelect (t : Timebase) : Bool := decide (t.state ≠ .local)

/-- The timebase, in the order of R139; the window is 1 when open (log 15). -/
def timebaseData (t : Timebase) : List Byte :=
  [timeStateByte t.state, boolByte (sourceSelect t), natByte t.prescale] ++ leBytes 2 t.divider
    ++ leBytes 2 t.limit ++ fieldBytes 4 t.tickCount ++ [natByte t.qualification]
    ++ leBytes 2 t.countdown ++ [boolByte t.hold, boolByte t.refPresent, boolByte t.windowOpen]

/-- READ_TIMEBASE (R139). -/
def execReadTimebase (s : State) : Host.Outcome State Fault Refusal :=
  .next (requestPeriod 3 (fun s => ⟨.ok, timebaseData s.time, s⟩) s)

/-- ACCEPT_LOCAL's reply (R138). -/
def acceptLocalReply (s : State) : Reply :=
  match s.time.state with
  | .holdover | .frozen => done { s with time := enterLocal s.time }
  | .local | .acquiring | .locked => refuse .state s

/-- ACCEPT_LOCAL (R138). -/
def execAcceptLocal (s : State) : Host.Outcome State Fault Refusal :=
  .next (requestPeriod 3 acceptLocalReply s)

end Sys2Proof.Machine
end

