-- ==== Sys2Proof/Machine/Dispatch.lean ====
section
/-! DEFINITION. The meaning of each command: one arm for each row of the table. -/

namespace Sys2Proof.Machine

/-- The effect of a command on everything but the queue of waiting commands. -/
def exec (i : Instr) (s : State) : Host.Outcome State Fault Refusal :=
  match i with
  | .takeRequest arrivals => Sys2Proof.Machine.execTakeRequest arrivals s
  | .issueAccess swap => Sys2Proof.Machine.execIssueAccess swap s
  | .memoryAnswer answer => Sys2Proof.Machine.execMemoryAnswer answer s
  | .releaseResponse owner => Sys2Proof.Machine.execReleaseResponse owner s
  | .tick => Sys2Proof.Machine.execTick s
  | .idleClose => Sys2Proof.Machine.execIdleClose s
  | .retirement service phase => Sys2Proof.Machine.execRetirement service phase s
  | .expiry service => Sys2Proof.Machine.execExpiry service s
  | .referenceQualified => Sys2Proof.Machine.execReferenceQualified s
  | .holdoverEnd => Sys2Proof.Machine.execHoldoverEnd s
  | .referenceLost => Sys2Proof.Machine.execReferenceLost s
  | .referenceReturned => Sys2Proof.Machine.execReferenceReturned s
  | .frameStart => Sys2Proof.Machine.execFrameStart s
  | .windowOpening => Sys2Proof.Machine.execWindowOpening s
  | .windowClosing => Sys2Proof.Machine.execWindowClosing s
  | .purgeAssertion => Sys2Proof.Machine.execPurgeAssertion s
  | .purgeRelease => Sys2Proof.Machine.execPurgeRelease s
  | .resetAssertion => Sys2Proof.Machine.execResetAssertion s
  | .resetRelease levels => Sys2Proof.Machine.execResetRelease levels s
  | .powerUp => Sys2Proof.Machine.execPowerUp s
  | .readPeriod edges => Sys2Proof.Machine.execReadPeriod edges s
  | .badFrame period => Sys2Proof.Machine.execBadFrame period s
  | .badCommand code params => Sys2Proof.Machine.execBadCommand code params s
  | .writePath action limit => Sys2Proof.Machine.execWritePath action limit s
  | .readPath => Sys2Proof.Machine.execReadPath s
  | .writeAperture params => Sys2Proof.Machine.execWriteAperture params s
  | .readAperture entry clear => Sys2Proof.Machine.execReadAperture entry clear s
  | .writeMask initiator mask => Sys2Proof.Machine.execWriteMask initiator mask s
  | .readMask initiator => Sys2Proof.Machine.execReadMask initiator s
  | .writeStream params => Sys2Proof.Machine.execWriteStream params s
  | .readStream entry => Sys2Proof.Machine.execReadStream entry s
  | .writeService params => Sys2Proof.Machine.execWriteService params s
  | .readService service => Sys2Proof.Machine.execReadService service s
  | .loadKey service phase word => Sys2Proof.Machine.execLoadKey service phase word s
  | .stop service => Sys2Proof.Machine.execStop service s
  | .start service phase => Sys2Proof.Machine.execStart service phase s
  | .flip service => Sys2Proof.Machine.execFlip service s
  | .writeTimebase params => Sys2Proof.Machine.execWriteTimebase params s
  | .readTimebase => Sys2Proof.Machine.execReadTimebase s
  | .acceptLocal => Sys2Proof.Machine.execAcceptLocal s
  | .writeJob params => Sys2Proof.Machine.execWriteJob params s
  | .readJob slot clear => Sys2Proof.Machine.execReadJob slot clear s
  | .triggerJob slot => Sys2Proof.Machine.execTriggerJob slot s
  | .readCapture => Sys2Proof.Machine.execReadCapture s
  | .readEvents => Sys2Proof.Machine.execReadEvents s
  | .clearEvents path keys jobs timebase => Sys2Proof.Machine.execClearEvents path keys jobs timebase s
  | .writeEventEnables group set => Sys2Proof.Machine.execWriteEventEnables group set s
  | .ackGroup group => Sys2Proof.Machine.execAckGroup group s
  | .clearOverrun => Sys2Proof.Machine.execClearOverrun s
  | .pathReset => Sys2Proof.Machine.execPathReset s
  | .keyPurge => Sys2Proof.Machine.execKeyPurge s

end Sys2Proof.Machine
end

