-- ==== Sys2Proof/Machine/Step.lean ====
section
/-! DEFINITION. One step: the command at the front of the queue, or, with none waiting, one edge of the
tick source (log 3). -/

namespace Sys2Proof.Machine

/-- With no command waiting, what the last tick made due is carried out, and then comes one edge of the
clock that is the tick source of the state: the local oscillator, or the station reference in LOCKED
(R130, R133); in reset nothing happens (R180; logs 2 and 3). -/
def idle (s : State) : State :=
  whenRunning (fun s => let u := settled s; clockEdge (tickSource u.time.state) u) s

/-- The part takes the command at the front of its queue, or idles. -/
def step (s : State) : Host.Outcome State Fault Refusal :=
  match s.pending with
  | c :: rest => exec c { s with pending := rest }
  | [] => .next (idle s)

/-- The command a word spells is put at the front of the queue; no word spells one (log 25). -/
def State.withFetchWord (s : State) (nbits w : Nat) : State :=
  match decodeTableWord nbits w with
  | some c => { s with pending := c :: s.pending }
  | none => s

end Sys2Proof.Machine
end

