-- ==== Sys2Proof/Safety.lean ====
section
/-! DEFINITION. What claims about the part are stated with: the answer of a command, and the laws the
manual says the part keeps, each a property of one state. -/

namespace Sys2Proof.Machine

/-! ### Answers of the management port -/

/-- A command's request period ends with a status and data held as a response frame, the part
otherwise as in `t` (R174, R175, R177). -/
def answers (i : Instr) (s : State) (st : PortStatus) (data : List Byte) (t : State) : Prop :=
  exec i s = .next { t with
    heldResponse := some (responseFrame st data)
    readPosition := 0
    miso         := firstOut s :: List.replicate (2 + i.params.length) 0xFF }

/-- The part listens to select periods: it is out of reset and no ignored period is under way (R180). -/
def listening (s : State) : Prop := s.inReset = false ∧ s.selectIgnored = false

/-! ### The arbiter -/

/-- The arbiter takes a request from a source that may be taken from, while the other source is not ready
or was the last taken from; the source then stands as in `b` (R4, R6). -/
def arbiterTakes (u : State) (source : Source) (r : Request) (b : State) : Prop :=
  match source with
  | .upstream => ∃ rest, u.upstream = r :: rest ∧ canTake u .upstream r = true ∧
      (readyJob u = none ∨ u.lastSource = .job) ∧ b = { u with upstream := rest }
  | .job => ∃ run, u.run = some run ∧ run.taken = false ∧ run.request = r ∧ canTake u .job r = true ∧
      (readyUpstream u = none ∨ u.lastSource = .upstream) ∧
      b = { u with run := some { run with taken := true } }

/-! ### Closes -/

/-- Some tracker entries close as abandoned one after another, each after its record is offered (R94). -/
def closedAsAbandoned (reason : CloseReason) (es : List TrackerEntry) (s : State) : State :=
  es.foldl (fun t e => closeEntry e (offer
    ⟨.abandoned, e.initiator, .write, e.slot, s.time.tickCount.setWidth 16, some e.aperture,
      if e.disposition = .null then none else some e.pid,
      match e.disposition with | .scramble i _ => some i | .clear | .pass | .null => none,
      some reason, none⟩ t)) s

/-! ### Frames

Each relation names the fields an operation may change, every other field being as it was. -/

/-- Only the capture queue and the event unit's flags and groups change. -/
def ByReport (s t : State) : Prop :=
  ∃ c o f r, t = { s with capture := c, overrun := o, flags := f, raised := r }

/-- Only the job slots, the run, the remembered slot and what `ByReport` may change. -/
def ByJobs (s t : State) : Prop :=
  ∃ j u m c o f r,
    t = { s with jobs := j, run := u, remembered := m, capture := c, overrun := o, flags := f, raised := r }

/-- Only the services, and what `ByReport` may change. -/
def ByKeys (s t : State) : Prop :=
  ∃ v c o f r, t = { s with services := v, capture := c, overrun := o, flags := f, raised := r }

/-- Only the services and what `ByJobs` may change. -/
def ByFlip (s t : State) : Prop :=
  ∃ v j u m c o f r,
    t = { s with services := v, jobs := j, run := u, remembered := m, capture := c, overrun := o,
                 flags := f, raised := r }

/-- Only the tracker, the services and what `ByReport` may change. -/
def ByTracker (s t : State) : Prop :=
  ∃ x v c o f r,
    t = { s with tracker := x, services := v, capture := c, overrun := o, flags := f, raised := r }

/-- What of a pending-list entry never changes while it is in the list (R5): its name, source, request,
disposal and aperture. -/
def takenAs (e : PendingEntry) : Nat × Source × Request × Disposal × Option ApertureCopy :=
  (e.id, e.source, e.request, e.disposal, e.aperture)

/-- An aperture entry less its saturation count (R33). -/
def uncounted (a : Aperture) : Aperture := { a with saturation := 0 }

/-- Only the pending list's segments, the waiting accesses, the merge table, the saturation counts, the
tracker, the services and what `ByReport` may change. -/
def ByPath (s t : State) : Prop :=
  t.pendingList.map takenAs = s.pendingList.map takenAs ∧
  (∀ i : ApertureNo, uncounted t.apertures[i] = uncounted s.apertures[i]) ∧
  ∃ p w m a x v c o f r,
    t = { s with pendingList := p, waiting := w, mergeTable := m, apertures := a, tracker := x,
                 services := v, capture := c, overrun := o, flags := f, raised := r }

/-- Only the timebase, the tick under way, the tracker and what `ByFlip` may change. -/
def ByTick (s t : State) : Prop :=
  ∃ b k e x v j u m c o f r,
    t = { s with time := b, tickOpen := k, expiring := e, tracker := x, services := v, jobs := j,
                 run := u, remembered := m, capture := c, overrun := o, flags := f, raised := r }

/-! ### Laws of the part -/

/-- The pending list, the tracker and the capture queue hold no more than they can (R5, R85, R165); the
merge table's limit is `MergeLaw`'s. -/
def WithinLimits (s : State) : Prop :=
  s.pendingList.length ≤ 24 ∧ s.tracker.length ≤ 20 ∧ s.capture.length ≤ 48

/-- A second segment that may yet need a merge entry of its own: a partial write not handed, in progress
(R59). -/
def unhandedPartial (s : State) (id : Nat) : Prop :=
  ∃ p g b first ws, segmentOf s ⟨id, 1⟩ = some (p, g) ∧ g.work = .unhanded ∧ g.state = .inProgress ∧
    g.place = .sample b first false ∧ g.op = .write ws

/-- The merge table holds at most 6 entries, each for a block of its own (R51); every request it names
has been taken (R5); and a request that waits with its first segment, whose second may need an entry,
has its claim on one (R59, R60). -/
def MergeLaw (s : State) : Prop :=
  s.mergeTable.length ≤ 6 ∧ (s.mergeTable.map (·.block)).Nodup ∧
  (∀ e ∈ s.pendingList, e.id < s.taken) ∧
  (∀ m ∈ s.mergeTable, ∀ ref ∈ m.waits, ref.id < s.taken) ∧
  ∀ m ∈ s.mergeTable, ∀ ref ∈ m.waits, ref.index = 0 → unhandedPartial s ref.id →
    ∃ x ∈ s.mergeTable, ref.id ∈ x.claims

/-- A group that has an enabled cause whose flag is set is raised (R170). -/
def GroupsRaised (s : State) : Prop := ∀ g : Group, groupDue s g = true → raisedOf s g = true

/-- The open SCRAMBLE entries that use a key slot (R88). -/
def usersOf (s : State) (i : ServiceNo) (p : Phase) : Nat :=
  (s.tracker.filter fun e => decide (e.disposition = .scramble i p)).length

/-- No two open entries serve the same slot (R85); every user count is the number of open SCRAMBLE
entries that use the key slot, and a slot with users is ACTIVE or RETIRING (R88). -/
def UsersCounted (s : State) : Prop :=
  (s.tracker.map (·.slot)).Nodup ∧
  ∀ (i : ServiceNo) (p : Phase),
    (keySlot s.services[i] p).users = usersOf s i p ∧
    (0 < (keySlot s.services[i] p).users →
      (keySlot s.services[i] p).state = .active ∨ (keySlot s.services[i] p).state = .retiring)

/-- What R109 asks of one service: at most one slot is ACTIVE, exactly one in RUNNING and STARVED, none
in IDLE. -/
def activeLaw (v : Service) : Prop :=
  ¬ (v.slotA.state = .active ∧ v.slotB.state = .active) ∧
  ((v.state = .running ∨ v.state = .starved) → activePhase v ≠ none) ∧
  (v.state = .idle → activePhase v = none)

/-- Every service keeps R109. -/
def ActiveLaw (s : State) : Prop := ∀ i : ServiceNo, activeLaw s.services[i]

/-- For every service the retire guard is less than the crypto period (R110). -/
def GuardLaw (s : State) : Prop := ∀ i : ServiceNo, s.services[i].guard < s.services[i].period

/-- A slot is RUNNING exactly when the engine holds a run of it, so at most one is (R144). -/
def OneRunning (s : State) : Prop :=
  ∀ j : JobNo, s.jobs[j].state = .running ↔ ∃ r, s.run = some r ∧ r.slot = j

/-- A valid aperture's limit is greater than its base, and no two valid ranges share a granule (R18,
R19, R29). -/
def AperturesApart (s : State) : Prop :=
  (∀ i : ApertureNo, s.apertures[i].valid = true → s.apertures[i].base < s.apertures[i].limit) ∧
  ∀ i j : ApertureNo, i ≠ j → s.apertures[i].valid = true → s.apertures[j].valid = true →
    rangesMeet s.apertures[i] s.apertures[j] = false

/-- Among valid stream map entries no two share an input PID or an effective output PID (R79, R81). -/
def StreamsApart (s : State) : Prop :=
  ∀ i j : StreamNo, i ≠ j → s.streams[i].valid = true → s.streams[j].valid = true →
    streamsMeet s.streams[i] s.streams[j] = false

/-- While the reset input is asserted, every block is held in its power-on state: what may differ is what
lies outside the part (its queue of commands, the requests presented and the responses delivered), the
levels of its inputs and the bytes last clocked out (R180). -/
def ResetHolds (s : State) : Prop :=
  s.inReset = true →
    { s with
      pending   := []
      upstream  := []
      delivered := State.reset.delivered
      time      := { s.time with refPresent := false, windowOpen := false }
      purgeHeld := false
      miso      := []
      inReset   := false } = State.reset

/-- The counting hold is clear in LOCAL, LOCKED and HOLDOVER, and set in FROZEN (R136). -/
def HoldLaw (s : State) : Prop :=
  ((s.time.state = .local ∨ s.time.state = .locked ∨ s.time.state = .holdover) → s.time.hold = false) ∧
  (s.time.state = .frozen → s.time.hold = true)

end Sys2Proof.Machine
end

