-- ==== Sys2Proof/Certificates/Slice0/Obligations.lean ====
section
/-! DEFINITION. The statements about the part that are to be proved. Every command that is no part of a
tick first carries out what the last tick made due (log 2), so a statement speaks of the state `u` that
this leaves; with no tick under way `u` is `s` itself. -/

open Sys2Proof Sys2Proof.Machine

/-! ### The step -/

/-- The part takes the command at the front of its queue (the queue is the model's own). -/
def Obligations.StepRunsTheFrontCommand : Prop :=
  ∀ (c : Instr) (rest : List Instr) (s : State), s.pending = c :: rest →
    step s = exec c { s with pending := rest }

/-- With no command waiting an edge of the tick source passes, and the edge that brings the division
count to prescale × divider makes the tick (R130); that an idle step is an edge is the model's choice
(log 3). The tick source is the station reference in LOCKED and the local oscillator in every other
state, and an edge of the other clock is not counted (R130, R133). In reset nothing happens (R180). -/
def Obligations.IdleStepPassesAnEdge : Prop :=
  (tickSource .locked = .stationReference ∧
    ∀ x ∈ [TimeState.local, .acquiring, .holdover, .frozen], tickSource x = .localOscillator) ∧
  (∀ (clock : TickSource) (t : State),
    (tickSource t.time.state ≠ clock → clockEdge clock t = t) ∧
    (tickSource t.time.state = clock →
      (t.time.division + 1 < t.time.prescale * t.time.divider →
        clockEdge clock t = { t with time := { t.time with division := t.time.division + 1 } }) ∧
      (t.time.prescale * t.time.divider ≤ t.time.division + 1 → t.inReset = false → t.tickOpen = false →
        exec .tick t = .next (clockEdge clock t)))) ∧
  (∀ s : State, s.pending = [] → s.inReset = false → ∀ u, u = settled s →
    step s = .next (clockEdge (tickSource u.time.state) u)) ∧
  ∀ s : State, s.pending = [] →
    (s.inReset = true → step s = .next s) ∧
    (s.inReset = false → ∀ u, u = settled s →
      (u.time.division + 1 < u.time.prescale * u.time.divider →
        step s = .next { u with time := { u.time with division := u.time.division + 1 } }) ∧
      (u.time.prescale * u.time.divider ≤ u.time.division + 1 → step s = exec .tick s))

/-- Every command is carried out in every state, and none touches the queue: the part has no stop. That
it has none is the model's reading of the manual, which names no effect of a command but these (log 21). -/
def Obligations.EveryCommandAnswersANextState : Prop :=
  ∀ (i : Instr) (s : State), ∃ t, exec i s = .next t ∧ t.pending = s.pending

/-! ### Reset -/

/-- The values after power-on reset: the tables, the contexts, the job slots, the queues, the flags and
the registers of every block (R17, R34, R50, R65, R84, R96, R128, R142, R163, R173, R180). -/
def Obligations.PowerOnValues : Prop :=
  let s := State.reset
  (s.pendingList = [] ∧ s.waiting = [] ∧ s.outstanding = [] ∧ s.lastSource = .job) ∧
  ((∀ i : ApertureNo,
      let a := s.apertures[i]
      a.valid = false ∧ a.base = 0 ∧ a.limit = 0 ∧ a.view = .raw ∧ a.writeSet = 0 ∧ a.readSet = 0 ∧
        a.violation = .refuse ∧ a.backing = 0 ∧ a.width = 0 ∧ a.depth = 0 ∧ a.saturation = 0 ∧
        a.clearRead = 0 ∧ a.unlisted = .clear) ∧
    (∀ i : Initiator, s.masks[i] = 0xFFFF#16) ∧ s.unmapped = .forward ∧ s.idleLimit = 8) ∧
  (s.mergeTable = [] ∧ s.tracker = [] ∧
    ∀ i : StreamNo,
      let e := s.streams[i]
      e.valid = false ∧ e.input = 0 ∧ e.output = none ∧ e.service = none ∧ e.treatment = .clear) ∧
  (∀ i : ServiceNo,
    let v := s.services[i]
    v.state = .idle ∧ v.period = 10000 ∧ v.guard = 1000 ∧ v.limit = 0 ∧ v.policy = .null ∧
      v.counter = 0 ∧ v.extension = 0 ∧ v.scrambled = 0 ∧ v.nulled = 0 ∧
      (v.slotA.state = .empty ∧ v.slotA.key = Vector.replicate 16 0 ∧ v.slotA.users = 0 ∧
        v.slotA.age = 0) ∧
      (v.slotB.state = .empty ∧ v.slotB.key = Vector.replicate 16 0 ∧ v.slotB.users = 0 ∧
        v.slotB.age = 0) ∧ keyWanted v = false) ∧
  (s.time.state = .local ∧ s.time.prescale = 1 ∧ s.time.divider = 27000 ∧ s.time.limit = 5000 ∧
    s.time.tickCount = 0 ∧ s.time.division = 0 ∧ s.time.qualification = 0 ∧ s.time.countdown = 0 ∧
    s.time.hold = false) ∧
  ((∀ j : JobNo,
      let v := s.jobs[j]
      v.state = .disabled ∧
        (v.config.enable = false ∧ v.config.kind = .fill ∧ v.config.source = 0 ∧ v.config.target = 0 ∧
          v.config.length = 1 ∧ v.config.pattern = 0 ∧ v.config.trigger = .noTrigger ∧
          v.config.windowBound = false) ∧
        v.cursor = 0 ∧ v.overflow = false ∧
        (v.result.status = .notRun ∧ v.result.words = 0 ∧ v.result.swept = 0 ∧ v.result.digest = 0 ∧
          v.result.fault = none)) ∧
    s.boundary = 6 ∧ s.remembered = 5 ∧ s.run = none) ∧
  (s.capture = [] ∧ s.overrun = false ∧
    (∀ c, flagOf s c = false ∧ enableOf s c = false) ∧ (∀ g, raisedOf s g = false) ∧
    eventLine s = false) ∧
  s.heldResponse = none

/-- Every law that a step keeps holds after power-on reset. -/
def Obligations.LawsHoldAtReset : Prop :=
  WithinLimits State.reset ∧ MergeLaw State.reset ∧ GroupsRaised State.reset ∧
    UsersCounted State.reset ∧ ActiveLaw State.reset ∧ GuardLaw State.reset ∧ HoldLaw State.reset ∧
    OneRunning State.reset ∧ AperturesApart State.reset ∧ StreamsApart State.reset ∧
    ResetHolds State.reset

/-- RESET_ASSERTION and POWER_UP put every block in its power-on state, and RESET_RELEASE ends it with
the inputs as they stand (R180). That the queue, the requests presented, the responses delivered and the
input levels lie outside the part, and that the release brings whether a select period is under way, is
the model's choice (logs 4, 5, 9, 10 and 24). -/
def Obligations.ResetAndPowerUp : Prop :=
  (∀ present isOpen : Bool, Timebase.reset present isOpen =
    { State.reset.time with refPresent := present, windowOpen := isOpen }) ∧
  ∀ (s : State) (levels : Levels),
    (∀ t, t = { State.reset with
        pending   := s.pending
        upstream  := s.upstream
        delivered := s.delivered
        time      := Timebase.reset s.time.refPresent s.time.windowOpen
        purgeHeld := s.purgeHeld
        inReset   := true } →
      exec .resetAssertion s = .next t ∧ exec .powerUp s = .next t) ∧
    (s.inReset = true → exec (.resetRelease levels) s = .next { s with
        time          := { s.time with refPresent := levels.refPresent, windowOpen := levels.windowOpen }
        purgeHeld     := levels.purgeHeld
        selectIgnored := levels.selectUnderway
        inReset       := false })

/-- A select period that begins under reset is ignored to its end: FFh on every byte, and nothing else;
while the reset input is asserted no event acts, and only the levels of the inputs and the requests that
the interconnect presents are followed (R179, R180). The model's choices: that these are followed under
reset (logs 4 and 9), the flag for a period under way at the release (log 24), and FFh on every byte of
an ignored period, also after the release (log 34). -/
def Obligations.ResetHoldsEveryBlock : Prop :=
  (∀ s : State, s.inReset = true ∨ s.selectIgnored = true →
    ∀ ignored : Nat → State,
      ignored = (fun n => { s with selectIgnored := false, miso := List.replicate n 0xFF }) →
    (∀ i : Instr, i.code ≠ none → exec i s = .next (ignored (3 + i.params.length))) ∧
    (∀ edges, exec (.readPeriod edges) s = .next (ignored (edges / 8))) ∧
    (∀ p, examine p = .badFrame → exec (.badFrame p) s = .next (ignored p.bytes.length)) ∧
    (∀ code ps, (Instr.badCommand code ps).wf = true →
      exec (.badCommand code ps) s = .next (ignored (3 + ps.length)))) ∧
  (∀ s : State, s.inReset = true →
    (∀ arrivals, exec (.takeRequest arrivals) s = .next { s with upstream := s.upstream ++ arrivals }) ∧
    (∀ swap, exec (.issueAccess swap) s = .next s) ∧ (∀ x, exec (.memoryAnswer x) s = .next s) ∧
    (∀ o, exec (.releaseResponse o) s = .next s) ∧ exec .tick s = .next s ∧
    exec .idleClose s = .next s ∧ (∀ i p, exec (.retirement i p) s = .next s) ∧
    (∀ i, exec (.expiry i) s = .next s) ∧ exec .referenceQualified s = .next s ∧
    exec .holdoverEnd s = .next s ∧ exec .frameStart s = .next s ∧
    exec .referenceLost s = .next { s with time := { s.time with refPresent := false } } ∧
    exec .referenceReturned s = .next { s with time := { s.time with refPresent := true } } ∧
    exec .windowOpening s = .next { s with time := { s.time with windowOpen := true } } ∧
    exec .windowClosing s = .next { s with time := { s.time with windowOpen := false } } ∧
    exec .purgeAssertion s = .next { s with purgeHeld := true } ∧
    exec .purgeRelease s = .next { s with purgeHeld := false })

/-- An input event that finds its level as it would leave it, a release of a reset that is not asserted,
and a BAD_FRAME or BAD_COMMAND of a period that is neither leave the part as it is: they are no events.
That such a command has no effect is the model's choice (logs 1 and 29). -/
def Obligations.CommandsThatAreNoEventDoNothing : Prop :=
  (∀ (code : Byte) (ps : List Byte),
    (Instr.badCommand code ps).wf = true ↔ code ≠ 0 ∧ ps.length ≤ 45 ∧ paramLength code = none) ∧
  ∀ s : State,
    (s.time.refPresent = false → exec .referenceLost s = .next s) ∧
    (s.time.refPresent = true → exec .referenceReturned s = .next s) ∧
    (s.time.windowOpen = true → exec .windowOpening s = .next s) ∧
    (s.time.windowOpen = false → exec .windowClosing s = .next s) ∧
    (s.purgeHeld = true → exec .purgeAssertion s = .next s) ∧
    (s.purgeHeld = false → exec .purgeRelease s = .next s) ∧
    (s.inReset = false → ∀ levels, exec (.resetRelease levels) s = .next s) ∧
    (∀ p, examine p ≠ .badFrame → exec (.badFrame p) s = .next s) ∧
    (∀ code ps, (Instr.badCommand code ps).wf = false → exec (.badCommand code ps) s = .next s)

/-! ### The intake -/

/-- TAKE_REQUEST: the arrivals join the upstream port; the arbiter takes from the one ready source, or
from the one it did not take from last, and the request joins the tail of the pending list; with none
ready nothing is taken (R4, R5, R6). A source is ready when fewer than 24 requests are pending, its order
has no parked request, and the merge table has a free entry for each of its segments that needs one (R4,
R9, R51, R61). Only the handlers of the memory path act besides. That the requests presented are a list
in the state is the model's choice (log 4). -/
def Obligations.TakeRequestAlternatesBetweenSources : Prop :=
  ∀ (s : State) (arrivals : List Request), s.inReset = false →
    ∀ u, u = settled { s with upstream := s.upstream ++ arrivals } →
      (∀ (source : Source) (r : Request),
        ∀ needing : Segment → Bool, needing = (fun g =>
          match g.place, g.op with
          | .sample b _ false, .write _ => decide (∀ m ∈ u.mergeTable, m.block ≠ b)
          | _, _ => false) →
        ∀ v segs, v = classify u source r →
          segs = (if v.disposal = .performed then cutSegments v.aperture r else []) →
        (canTake u source r = true ↔
          u.pendingList.length < 24 ∧
          (¬ ∃ e ∈ u.pendingList, entryOwner e = ownerOf source r.initiator ∧
            ∃ m ∈ u.mergeTable, ∃ x ∈ m.waits, x.id = e.id) ∧
          u.mergeTable.length + (segs.filter needing).length ≤ 6)) ∧
      (∀ r, readyUpstream u = some r ↔ ∃ rest, u.upstream = r :: rest ∧ canTake u .upstream r = true) ∧
      (∀ run, readyJob u = some run ↔
        u.run = some run ∧ run.taken = false ∧ canTake u .job run.request = true) ∧
      (readyUpstream u = none → readyJob u = none → exec (.takeRequest arrivals) s = .next u) ∧
      (∀ r, readyUpstream u = some r → readyJob u = none ∨ u.lastSource = .job →
        ∃ t, exec (.takeRequest arrivals) s = .next t ∧
          t.pendingList.map takenAs = u.pendingList.map takenAs ++
            [(u.taken, .upstream, r, (classify u .upstream r).disposal, (classify u .upstream r).aperture)] ∧
          ByPath { u with
            upstream := u.upstream.tail, lastSource := .upstream, taken := u.taken + 1
            pendingList := t.pendingList } t) ∧
      (∀ run, readyJob u = some run → readyUpstream u = none ∨ u.lastSource = .upstream →
        ∃ t, exec (.takeRequest arrivals) s = .next t ∧
          t.pendingList.map takenAs = u.pendingList.map takenAs ++
            [(u.taken, .job, run.request, (classify u .job run.request).disposal,
              (classify u .job run.request).aperture)] ∧
          ByPath { u with
            run := some { run with taken := true }, lastSource := .job, taken := u.taken + 1
            pendingList := t.pendingList } t)

/-- A request of either source, performed in a RAW aperture or in unmapped space, has one segment, whose
access is handed to the memory port unchanged; performed under NOTE or FORWARD_NOTE it also gives its
record (R8, R12, R22, R24). One performed in a sample or packet aperture joins the pending list with the
segments it is cut into, gives its record, and has its segments handed to the sample packer, or to the
packet path one after the other in address order (R5, R8, R43, R68). -/
def Obligations.RawRequestIsHandedUnchanged : Prop :=
  (∀ (s : State) (arrivals : List Request), s.inReset = false →
    ∀ u, u = settled { s with upstream := s.upstream ++ arrivals } →
    ∀ (source : Source) (r : Request) (b : State) (a : Option ApertureCopy) (record : Option CaptureKind),
      arbiterTakes u source r b →
      classify u source r = ⟨.performed, a, record⟩ →
      (∀ c, a = some c → c.view = .raw) →
      ∀ w, w = { b with
          taken       := u.taken + 1
          lastSource  := source
          pendingList := u.pendingList ++
            [⟨u.taken, source, r, .performed, a, [⟨r.address, r.op, .raw, .inProgress, .plain, []⟩]⟩]
          waiting     := u.waiting ++ [⟨⟨r, .segment ⟨u.taken, 0⟩ .lower⟩, false⟩] } →
      exec (.takeRequest arrivals) s = .next
        (match record with
        | none => w
        | some kind =>
          offer ⟨kind, r.initiator, opKind r.op, r.address, u.time.tickCount.setWidth 16,
            a.map (·.number), none, none, none, none⟩ w)) ∧
  (∀ (s : State) (arrivals : List Request), s.inReset = false →
    ∀ u, u = settled { s with upstream := s.upstream ++ arrivals } →
    ∀ (source : Source) (r : Request) (b : State) (c : ApertureCopy) (record : Option CaptureKind),
      arbiterTakes u source r b →
      classify u source r = ⟨.performed, some c, record⟩ →
      ∀ p, p = (⟨u.taken, source, r, .performed, some c, cutSegments (some c) r⟩ : PendingEntry) →
      ∀ w, w = { b with
          taken := u.taken + 1, lastSource := source, pendingList := u.pendingList ++ [p] } →
      ∀ t, t =
        (match record with
        | none => w
        | some kind =>
          offer ⟨kind, r.initiator, opKind r.op, r.address, u.time.tickCount.setWidth 16,
            some c.number, none, none, none, none⟩ w) →
      (∀ backing width depth mask, c.view = .sample backing width depth mask →
        exec (.takeRequest arrivals) s = .next (handSamples p t)) ∧
      (∀ clearRead unlisted, c.view = .packet clearRead unlisted →
        (∀ g slot first, p.segments = [g] → g.place = .packet slot first →
          exec (.takeRequest arrivals) s = .next (handPacket p ⟨p.id, 0⟩ g slot first t)) ∧
        (∀ g h slot first slot' first', p.segments = [g, h] → g.place = .packet slot first →
          h.place = .packet slot' first' →
          exec (.takeRequest arrivals) s = .next
            (handPacket p ⟨p.id, 1⟩ h slot' first' (handPacket p ⟨p.id, 0⟩ g slot first t)))))

/-- A request is ill-formed by the rules of R3 alone, and then gives record ILL_FORMED. A request of
either source that is ill-formed or refused whole is taken with no segment and no access; its record, if
it has one, is offered to the capture queue (R3, R7, R21, R24). -/
def Obligations.RefusedRequestMakesNoAccess : Prop :=
  (∀ (s : State) (source : Source) (r : Request),
    (illFormed source r = true ↔
      r.address.toNat % 8 ≠ 0 ∨ opLength r.op = 0 ∨ 16 < opLength r.op ∨
      r.address.toNat / 128 ≠ (r.address.toNat + 8 * opLength r.op - 1) / 128 ∨
      (source = .upstream ∧ r.initiator = 15)) ∧
    (illFormed source r = true → classify s source r = ⟨.illFormed, none, some .illFormed⟩)) ∧
  ∀ (s : State) (arrivals : List Request), s.inReset = false →
    ∀ u, u = settled { s with upstream := s.upstream ++ arrivals } →
    ∀ (source : Source) (r : Request) (b : State) (v : Verdict),
      arbiterTakes u source r b → classify u source r = v → v.disposal ≠ .performed →
      ∀ w, w = { b with
          taken       := u.taken + 1
          lastSource  := source
          pendingList := u.pendingList ++ [⟨u.taken, source, r, v.disposal, v.aperture, []⟩] } →
      exec (.takeRequest arrivals) s = .next
        (match v.record with
        | none => w
        | some kind =>
          offer ⟨kind, r.initiator, opKind r.op, r.address, u.time.tickCount.setWidth 16,
            v.aperture.map (·.number), none, none, none, none⟩ w)

/-- Classification by the one aperture whose range contains the address, its sets and its violation
action, or by the unmapped action; and the copy of the aperture, its view's fields and the initiator's
mask among them, that the request carries (R7, R18 to R24, R31). That the copy holds the mask for reads
and refused requests too, where nothing uses it, is the model's reading (log 30). -/
def Obligations.ClassificationFollowsTheApertures : Prop :=
  (∀ (a : Aperture) (address : Addr), inRange a address = true ↔
    a.valid = true ∧ a.base * 4096 ≤ address.toNat ∧ address.toNat < a.limit * 4096) ∧
  (∀ (set : InitiatorSet) (i : Initiator), inSet set i = set.getLsbD i.val) ∧
  ∀ (s : State) (source : Source) (r : Request), illFormed source r = false →
    (∀ i : ApertureNo, inRange s.apertures[i] r.address = true →
      (∀ j : ApertureNo, j ≠ i → inRange s.apertures[j] r.address = false) →
      ∀ a c, a = s.apertures[i] → c = ⟨i, a.base, match a.view with
          | .raw => .raw
          | .sample => .sample a.backing a.width a.depth s.masks[r.initiator]
          | .packet => .packet a.clearRead a.unlisted⟩ →
        (inSet (match opKind r.op with | .read => a.readSet | .write => a.writeSet) r.initiator = true →
          classify s source r = ⟨.performed, some c, none⟩) ∧
        (inSet (match opKind r.op with | .read => a.readSet | .write => a.writeSet) r.initiator = false →
          classify s source r =
            match a.violation with
            | .refuse => ⟨.refused, some c, none⟩
            | .divert => ⟨.refused, some c, some .denied⟩
            | .note => ⟨.performed, some c, some .noted⟩)) ∧
    ((∀ i : ApertureNo, inRange s.apertures[i] r.address = false) →
      classify s source r =
        match s.unmapped with
        | .forward => ⟨.performed, none, none⟩
        | .forwardNote => ⟨.performed, none, some .unmapped⟩
        | .refuse => ⟨.refused, none, none⟩
        | .divert => ⟨.refused, none, some .unmapped⟩)

/-- A performed request is cut at the sample blocks or the slots of its aperture: the segments cover it
in address order, none crosses a boundary, and there are two exactly when the request does (R8). Each
begins in progress with its place: a sample segment its backing block, its first word in the block and
whether it is full (R36, R42); a packet segment its slot and its first slot word (R66). -/
def Obligations.SegmentsAreCutAtBoundaries : Prop :=
  ∀ (n : ApertureNo) (base unit : Nat) (view : ViewCopy) (r : Request),
    illFormed .job r = false → base * 4096 ≤ r.address.toNat →
    (match view with
      | .raw => False
      | .sample _ _ _ _ => unit = 64
      | .packet _ _ => unit = 192) →
    ∀ segs, segs = cutSegments (some ⟨n, base, view⟩) r →
      let o := r.address.toNat - base * 4096
      segs.length = (if o / unit = (o + 8 * opLength r.op - 1) / unit then 1 else 2) ∧
      (segs.map fun g => opLength g.op).sum = opLength r.op ∧
      (segs.map fun g => opWords g.op).flatten = opWords r.op ∧
      (segs.map (·.address)).head? = some r.address ∧
      (∀ g ∈ segs, opKind g.op = opKind r.op ∧ 1 ≤ opLength g.op ∧
        (g.address.toNat - base * 4096) / unit
          = (g.address.toNat - base * 4096 + 8 * opLength g.op - 1) / unit) ∧
      (∀ g h, segs = [g, h] → h.address.toNat = g.address.toNat + 8 * opLength g.op) ∧
      (∀ g ∈ segs, g.state = .inProgress ∧ g.data = [] ∧
        ∀ x, x = g.address.toNat - base * 4096 →
        match view with
        | .raw => True
        | .sample backing _ depth mask => ∃ full,
            g.place = .sample ⟨backing + BitVec.ofNat 32 (x / 64 * (4 * depth)), depth⟩ (x % 64 / 8) full ∧
            (full = true ↔ ∃ ws, g.op = .write ws ∧ ws.length = 8 ∧
              (∀ w ∈ ws, w.enables = 0xFF) ∧ mask = 0xFFFF)
        | .packet _ _ => ∃ slot,
            g.place = .packet slot (x % 192 / 8) ∧ slot.toNat = base * 4096 + x / 192 * 192)

/-! ### The memory port and release -/

/-- ISSUE_ACCESS: the oldest waiting access joins the outstanding ones; of two handed together either
may be issued first (R12, R13), which the model lets for the two accesses of one block (log 6). A backing
read or write of a block is handed as one access, or as two handed together when the block runs across a
line boundary, and then waits for that many answers (R38). -/
def Obligations.AccessesAreIssuedInOrder : Prop :=
  (∀ (s : State) (swap : Bool), s.inReset = false → ∀ u, u = settled s →
    (u.waiting = [] → exec (.issueAccess swap) s = .next u) ∧
    (∀ w rest, u.waiting = w :: rest → swap = false ∨ w.paired = false ∨ rest = [] →
      exec (.issueAccess swap) s =
        .next { u with waiting := rest, outstanding := u.outstanding ++ [w.access] }) ∧
    (∀ w v rest, u.waiting = w :: v :: rest → swap = true → w.paired = true →
      exec (.issueAccess swap) s =
        .next { u with
          waiting := { w with paired := false } :: rest, outstanding := u.outstanding ++ [v.access] })) ∧
  ∀ (s : State) (r : Request) (b : Block) (handler : Half → Handler) (words : List Word),
    b.depth = 8 ∨ b.depth = 10 ∨ b.depth = 12 → words.length = b.depth / 2 →
    ∀ n place k, n = b.depth / 2 → place = b.address.toNat % 128 → k = (128 - place) / 8 →
    ∀ whole, whole = (fun ws : List Word => Op.write (ws.map fun w => (⟨w, 0xFF⟩ : WriteWord))) →
    (place + 4 * b.depth ≤ 128 →
      ∀ one, one = (fun op => { s with waiting := s.waiting ++
        [⟨⟨⟨r.initiator, r.tag, op, b.address⟩, handler .lower⟩, false⟩] }) →
      handBlockRead r b handler s = one (.read n) ∧
      handBlockWrite r b words handler s = one (whole words)) ∧
    (128 < place + 4 * b.depth →
      ∀ two, two = (fun lower upper => { s with waiting := s.waiting ++
        [⟨⟨⟨r.initiator, r.tag, lower, b.address⟩, handler .lower⟩, true⟩,
         ⟨⟨⟨r.initiator, r.tag, upper, b.address + BitVec.ofNat 32 (8 * k)⟩, handler .upper⟩, false⟩] }) →
      handBlockRead r b handler s = two (.read k) (.read (n - k)) ∧
      handBlockWrite r b words handler s = two (whole (words.take k)) (whole (words.drop k))) ∧
    freshIo b = ⟨if 128 < place + 4 * b.depth then 2 else 1, false, [], []⟩

/-- MEMORY_ANSWER: an answer goes to the oldest outstanding access (R10, R13). A RAW or packet segment
ends DONE with the words read or, on ERROR, FAULT with record and cause MEMORY_FAULT (R14); an answer to
no access or to an absorbed one is discarded (R16). A direct backing access finishes its segment when all
of it is answered (R46, R48). A clear read settles its header and is descrambled (R102 to R105); a record
of a header fetch stands though the read later fails (log 31). A merge entry's fetch or write that is
complete moves the entry on (R55, R57, R62, R63): its record names the item's request, else the first of
the claim list, and whom a failed fetch finishes when that list is empty is the model's choice (log 11).
An answer carries 16 words, of which a read takes its length (log 7). -/
def Obligations.AnswersGoToTheOldestAccess : Prop :=
  (∀ (s : State) (answer : Answer), s.inReset = false → ∀ u, u = settled s →
    (u.outstanding = [] → exec (.memoryAnswer answer) s = .next u) ∧
    (∀ a rest, u.outstanding = a :: rest →
      ∀ w, w = { u with outstanding := rest } →
      ∀ fault : PendingEntry → State, fault = (fun p =>
        setCause .memoryFault (offer ⟨.memoryFault, p.request.initiator, opKind a.record.op,
          a.record.address, u.time.tickCount.setWidth 16, p.aperture.map (·.number),
          none, none, none, none⟩ w)) →
      ∀ change : SegRef → (Segment → Segment) → List PendingEntry, change = (fun ref f =>
        u.pendingList.map fun e =>
          if e.id = ref.id then { e with segments := e.segments.modify ref.index f } else e) →
      ∀ ends : SegRef → SegState → List Word → List PendingEntry, ends = (fun ref st data =>
        change ref fun x => { x with state := st, data := data }) →
      ∀ answered : BlockIo → Half → BlockIo, answered = (fun io half =>
        match answer, half with
        | .error, _ => { io with left := io.left - 1, failed := true }
        | .okay data, .lower =>
          { io with left := io.left - 1, lower := data.toList.take (opLength a.record.op) }
        | .okay data, .upper =>
          { io with left := io.left - 1, upper := data.toList.take (opLength a.record.op) }) →
      (a.handler = .absorbed → exec (.memoryAnswer answer) s = .next w) ∧
      (∀ ref half p g, a.handler = .segment ref half → segmentOf u ref = some (p, g) →
        (g.work = .plain →
          (∀ data : Vector Word 16, answer = .okay data →
            exec (.memoryAnswer answer) s = .next { w with
              pendingList := ends ref .done
                (match g.op with
                | .read n => data.toList.take n
                | .write _ => []) }) ∧
          (answer = .error →
            exec (.memoryAnswer answer) s = .next { fault p with pendingList := ends ref .fault [] })) ∧
        (∀ io b first full c, g.work = .direct io → g.place = .sample b first full →
          sampleCopy p = some c →
          ∀ x y, x = (if answer = .error then fault p else w) → y = answered io half →
          (y.left ≠ 0 → exec (.memoryAnswer answer) s =
            .next { x with pendingList := change ref fun z => { z with work := .direct y } }) ∧
          (y.left = 0 → y.failed = true → exec (.memoryAnswer answer) s =
            .next { x with pendingList := ends ref .fault [] }) ∧
          (y.left = 0 → y.failed = false → exec (.memoryAnswer answer) s =
            .next { x with
              pendingList := ends ref .done
                (match g.op with
                | .read n =>
                  expandWords c.width c.depth (unpackWords c.depth (y.lower ++ y.upper)) first n
                | .write _ => []) })) ∧
        (∀ plan slot first, g.work = .clear plan → g.place = .packet slot first →
          (answer = .error →
            exec (.memoryAnswer answer) s = .next { fault p with pendingList := ends ref .fault [] }) ∧
          (∀ data : Vector Word 16, answer = .okay data →
            ∀ words, words = data.toList.take (opLength g.op) →
            (plan ≠ .fromData → exec (.memoryAnswer answer) s =
              .next { w with pendingList := ends ref .done (clearData plan first words) }) ∧
            (plan = .fromData → 2 ≤ opLength g.op →
              ∀ h, h = headerOf data[0] data[1] →
              exec (.memoryAnswer answer) s = .next
                (match settlePlan w h with
                | .ok found =>
                  { w with pendingList := ends ref .done (clearData found first words) }
                | .error service =>
                  { offer ⟨.clearReadFailed, p.request.initiator, .read, g.address,
                      u.time.tickCount.setWidth 16, p.aperture.map (·.number), some h.pid, service,
                      none, none⟩ w with
                    pendingList := ends ref .done words }))))) ∧
      (∀ ref p g, a.handler = .header ref → segmentOf u ref = some (p, g) →
        (answer = .error →
          exec (.memoryAnswer answer) s = .next { fault p with pendingList := ends ref .fault [] }) ∧
        (∀ data : Vector Word 16, answer = .okay data →
          ∀ h, h = headerOf data[0] data[1] →
          ∀ reads : ClearPlan → State → State, reads = (fun plan x => { x with
            pendingList := change ref fun z => { z with work := .clear plan }
            waiting := u.waiting ++
              [⟨⟨⟨p.request.initiator, p.request.tag, g.op, g.address⟩, .segment ref .lower⟩, false⟩] }) →
          exec (.memoryAnswer answer) s = .next
            (match settlePlan w h with
            | .ok found => reads found w
            | .error service => reads .asStored
                (offer ⟨.clearReadFailed, p.request.initiator, .read, g.address,
                  u.time.tickCount.setWidth 16, p.aperture.map (·.number), some h.pid, service,
                  none, none⟩ w)))) ∧
      (∀ b half e, a.handler = .merge b half → mergeOf u b = some e →
        ∀ served, served = (match e.item, e.claims with
          | some ref, _ => some ref.id
          | none, id :: _ => some id
          | none, [] => e.fetchFor) →
        ∀ x y, x = (match answer, served.bind (entryOf u) with
            | .error, some p => fault p
            | _, _ => w) →
          y = { e with io := answered e.io half } →
        (y.io.left ≠ 0 → exec (.memoryAnswer answer) s = .next { x with
          mergeTable := u.mergeTable.map fun m => if m.block = e.block then y else m }) ∧
        (y.io.left = 0 → exec (.memoryAnswer answer) s = .next (mergeRun (completeMerge y x)))))) ∧
  (∀ (e : MergeEntry) (s : State),
    ∀ put : MergeEntry → State, put = (fun x => { s with
      mergeTable := s.mergeTable.map fun m => if m.block = e.block then x else m }) →
    ∀ ends : SegRef → SegState → State → State, ends = (fun ref st x => { x with
      pendingList := x.pendingList.map fun p =>
        if p.id = ref.id then
          { p with segments := p.segments.modify ref.index fun y => { y with state := st, data := [] } }
        else p }) →
    ∀ read, read = unpackWords e.block.depth (e.io.lower ++ e.io.upper) →
    (e.state = .fetching → e.io.failed = false →
      (∀ ref, e.item = some ref →
        completeMerge e s = carryOut { e with state := .held, copy := some read } ref s) ∧
      (e.item = none → completeMerge e s = put { e with state := .held, copy := some read })) ∧
    (e.state = .fetching → e.io.failed = true →
      (∀ ref, e.item = some ref →
        completeMerge e s =
          ends ref .fault (put { e with state := .held, item := none, copy := none })) ∧
      (∀ id rest, e.item = none → e.claims = id :: rest →
        completeMerge e s =
          ends ⟨id, 1⟩ .fault (put { e with state := .held, claims := rest, copy := none })) ∧
      (∀ id, e.item = none → e.claims = [] → e.fetchFor = some id →
        completeMerge e s =
          ends ⟨id, 1⟩ .fault
            (put { e with state := .held, copy := none, waits := e.waits.erase ⟨id, 1⟩ }))) ∧
    (∀ ref, e.state = .writing → e.item = some ref →
      completeMerge e s =
        ends ref (if e.io.failed then .fault else .done)
          (put { e with state := .held, item := none, copy := if e.io.failed then none else e.copy })))

/-- RELEASE_RESPONSE: the oldest entry of an order is released when it is answerable, its response
formed as R2 and R10 give it and handed to its source, and the entry is freed (R11). Its status is the
worst of its segments', FAULT before REFUSED before DONE, with no answer while one is in progress, and
REFUSED for a request that was not performed (R3, R7, R10). An upstream request belongs to the order of
the initiator it claims, and the requests of jobs have an order of their own (R3, R11). -/
def Obligations.ResponsesAreReleasedInOrder : Prop :=
  (∀ e : PendingEntry,
    (e.disposal ≠ .performed → entryStatus e = some .refused) ∧
    (e.disposal = .performed →
      (entryStatus e = none ↔ ∃ g ∈ e.segments, g.state = .inProgress) ∧
      ((∀ g ∈ e.segments, g.state ≠ .inProgress) → entryStatus e = some
        (if ∃ g ∈ e.segments, g.state = .fault then .fault
          else if ∃ g ∈ e.segments, g.state = .refused then .refused else .done))) ∧
    (e.source = .upstream → entryOwner e = .upstream e.request.initiator) ∧
    (e.source = .job → entryOwner e = .job) ∧ entryOwner e = ownerOf e.source e.request.initiator) ∧
  ∀ (s : State) (o : Owner), s.inReset = false → ∀ u, u = settled s →
    ((∀ x ∈ u.pendingList, entryOwner x ≠ o) → exec (.releaseResponse o) s = .next u) ∧
    (∀ before e after, u.pendingList = before ++ e :: after → (∀ x ∈ before, entryOwner x ≠ o) →
      entryOwner e = o →
      (entryStatus e = none → exec (.releaseResponse o) s = .next u) ∧
      (∀ st, entryStatus e = some st →
        ∀ data, data = (match e.disposal, e.request.op, st with
          | .illFormed, _, _ => []
          | _, .write _, _ => []
          | _, .read _, .done => (e.segments.map (·.data)).flatten
          | _, .read n, _ => List.replicate n 0) →
        ∀ w, w = { u with pendingList := u.pendingList.filter fun x => decide (x.id ≠ e.id) } →
        (e.source = .upstream →
          exec (.releaseResponse o) s = .next { w with
            delivered := u.delivered.set e.request.initiator
              (u.delivered[e.request.initiator] ++ [⟨e.request.initiator, e.request.tag, st, data⟩]) }) ∧
        (e.source = .job →
          exec (.releaseResponse o) s = .next (jobResponse st data (e.aperture.map (·.number)) w))))

/-! ### Sample views -/

/-- A segment in a sample view parks on the entry of its block; with none, a read or a full write goes
directly and a partial write makes an entry and fetches the block (R43, R44, R46, R53, R54). Of two
segments, the second waits while the first is parked, a partial write with a claim (R59). An entry
carries out its item (R56, R58), turns to its wait list, is freed or fetches for a claim (R58), and a
second segment is then handed (R60). Saturated lanes are counted up to 65535, and SATURATION is set as the
count leaves 0 (R40). With no entry ready nothing follows; else the first ready entry turns (R58). That
the item is carried out before the second segment is handed, that the first ready entry turns first, and
that a claim's fetch is handed before the item an entry takes at once, is the model's choice, since R54,
R58, R59 and R60 give no order (log 12). -/
def Obligations.WriteSegmentGoesOneOfFourWays : Prop :=
  ∀ (s : State),
    ∀ table : List MergeEntry → State, table = (fun m => { s with mergeTable := m }) →
    ∀ put : MergeEntry → List MergeEntry, put = (fun x =>
      s.mergeTable.map fun m => if m.block = x.block then x else m) →
    ∀ fetching : Block → ApertureNo → Option SegRef → List Nat → Nat → MergeEntry,
      fetching = (fun b n item claims id => ⟨b, n, .fetching, item, none, [], claims, freshIo b, some id⟩) →
    (∀ b : Block, mergeOf s b = s.mergeTable.find? fun m => decide (m.block = b)) ∧
    (∀ ref : SegRef, ∀ change : (Segment → Segment) → State, change = (fun f => { s with
        pendingList := s.pendingList.map fun e =>
          if e.id = ref.id then { e with segments := e.segments.modify ref.index f } else e }) →
      (∀ w, setWork ref w s = change fun g => { g with work := w }) ∧
      (∀ st data, finishSegment ref st data s = change fun g => { g with state := st, data := data })) ∧
    (∀ (ref : SegRef) (p : PendingEntry) (g : Segment) (c : SampleCopy) (b : Block) (first : Nat)
      (full : Bool),
      segmentOf s ref = some (p, g) → sampleCopy p = some c → g.place = .sample b first full →
      (∀ e, mergeOf s b = some e →
        handSample ref s = setWork ref .merging (table
          (s.mergeTable.map fun m => if m.block = b then { e with waits := e.waits ++ [ref] } else m))) ∧
      (∀ n, mergeOf s b = none → g.op = .read n →
        handSample ref s =
          handBlockRead p.request b (.segment ref) (setWork ref (.direct (freshIo b)) s)) ∧
      (∀ ws, mergeOf s b = none → g.op = .write ws → full = true →
        ∃ stored : Stored, (∀ i : Fin 32, stored[i] =
            (reduceLane c.width c.depth (laneOf (ws.map (·.data)) i.val)).1) ∧
          handSample ref s =
            handBlockWrite p.request b (packWords c.depth stored) (.segment ref)
              (setWork ref (.direct (freshIo b))
                (addSaturated c.number
                  (countLanes fun i =>
                    (reduceLane c.width c.depth (laneOf (ws.map (·.data)) i.val)).2) s))) ∧
      (∀ ws, mergeOf s b = none → g.op = .write ws → full = false →
        handSample ref s =
          handBlockRead p.request b (.merge b)
            (setWork ref .merging (table
              (s.mergeTable ++ [fetching b c.number (some ref) [] ref.id]))))) ∧
    (∀ (n : ApertureNo) (k : Nat),
      ∀ a t, a = s.apertures[n] → t = { s with
        apertures := s.apertures.set n { a with saturation := min 65535 (a.saturation + k) } } →
      addSaturated n k s = if a.saturation = 0 ∧ 0 < k then setCause .saturation t else t) ∧
    (∀ saturated : Fin 32 → Bool,
      countLanes saturated = (Finset.univ.filter fun i => saturated i = true).card) ∧
    (∀ (p : PendingEntry) (c : SampleCopy) (g h : Segment) (b : Block) (first : Nat) (full : Bool),
      sampleCopy p = some c → g.place = .sample b first full →
      ∀ lower upper : SegRef, lower = ⟨p.id, 0⟩ → upper = ⟨p.id, 1⟩ →
      (p.segments = [g] → handSamples p s = mergeRun (handSample lower s)) ∧
      (p.segments = [g, h] → mergeOf s b = none →
        handSamples p s = mergeRun (handSample upper (handSample lower s))) ∧
      (∀ e, p.segments = [g, h] → mergeOf s b = some e →
        ∀ t, t = setWork lower .merging { setWork upper .unhanded s with
          mergeTable := s.mergeTable.map fun m =>
            if m.block = e.block then { e with waits := e.waits ++ [lower] } else m } →
        ∀ d f whole, h.place = .sample d f whole →
        (∀ x, mergeOf t d = some x → handSamples p s = mergeRun { t with
          mergeTable := t.mergeTable.map fun m =>
            if m.block = x.block then { x with claims := x.claims ++ [p.id] } else m }) ∧
        (∀ ws, mergeOf t d = none → h.op = .write ws → whole = false →
          handSamples p s = mergeRun (handBlockRead p.request d (.merge d) { t with
            mergeTable := t.mergeTable ++ [fetching d c.number none [p.id] p.id] })) ∧
        (mergeOf t d = none → opKind h.op = .read ∨ whole = true → handSamples p s = mergeRun t))) ∧
    (∀ (e : MergeEntry) (ref : SegRef) (p : PendingEntry) (g : Segment) (c : SampleCopy) (b : Block)
      (first : Nat) (full : Bool),
      segmentOf s ref = some (p, g) → sampleCopy p = some c → g.place = .sample b first full →
      ∀ depth, depth = e.block.depth →
      ∀ fetched, fetched = handBlockRead p.request e.block (.merge e.block) (table (put { e with
        state := .fetching, copy := none, io := freshIo e.block, fetchFor := some ref.id })) →
      ∀ written : (Fin 32 → BitVec 12 × Bool) → Prop, written = (fun lane =>
        ∃ stored : Stored, (∀ i : Fin 32, stored[i] = (lane i).1) ∧
          ∀ t, t = addSaturated c.number (countLanes fun i => (lane i).2) s →
          carryOut e ref s =
            handBlockWrite p.request e.block (packWords depth stored) (.merge e.block) { t with
              mergeTable := put { e with
                state := .writing, copy := some stored, io := freshIo e.block } }) →
      (∀ n held, g.op = .read n → e.copy = some held →
        carryOut e ref s = finishSegment ref .done (expandWords c.width depth held first n)
          (table (put { e with state := .held, item := none }))) ∧
      (∀ n, g.op = .read n → e.copy = none → carryOut e ref s = fetched) ∧
      (∀ ws, g.op = .write ws → full = true →
        written fun i => reduceLane c.width depth (laneOf (ws.map (·.data)) i.val)) ∧
      (∀ ws held, g.op = .write ws → full = false → e.copy = some held →
        written fun i => mergeLane c.width depth c.mask first ws held i) ∧
      (∀ ws, g.op = .write ws → full = false → e.copy = none → carryOut e ref s = fetched)) ∧
    (∀ e : MergeEntry,
      (mergeReady e = true ↔
        e.state = .held ∧ e.item = none ∧ (e.waits ≠ [] ∨ e.claims = [] ∨ e.copy = none)) ∧
      (∀ ref rest, e.waits = ref :: rest →
        mergeTurn e s = handSecond ref (carryOut { e with waits := rest, item := some ref } ref s)) ∧
      (e.waits = [] → e.claims = [] →
        mergeTurn e s = table (s.mergeTable.filter fun m => decide (m.block ≠ e.block))) ∧
      (∀ id rest p, e.waits = [] → e.claims = id :: rest → entryOf s id = some p →
        mergeTurn e s = handBlockRead p.request e.block (.merge e.block) (table (put { e with
          state := .fetching, copy := none, io := freshIo e.block, fetchFor := some id })))) ∧
    (∀ (ref : SegRef) (p : PendingEntry) (g : Segment),
      ∀ second, second = ⟨ref.id, 1⟩ → segmentOf s second = some (p, g) →
      (ref.index ≠ 0 ∨ g.work ≠ .unhanded ∨ g.state ≠ .inProgress → handSecond ref s = s) ∧
      (ref.index = 0 → g.work = .unhanded → g.state = .inProgress →
        ((∀ m ∈ s.mergeTable, ref.id ∉ m.claims) → handSecond ref s = handSample second s) ∧
        (∀ before e after, s.mergeTable = before ++ e :: after → (∀ m ∈ before, ref.id ∉ m.claims) →
          ref.id ∈ e.claims → handSecond ref s = setWork second .merging (table (put { e with
            claims := e.claims.erase ref.id, waits := e.waits ++ [second] }))))) ∧
    ((∀ e ∈ s.mergeTable, mergeReady e = false) → mergeRun s = s) ∧
    (∀ before e after n, s.mergeTable = before ++ e :: after → (∀ m ∈ before, mergeReady m = false) →
      mergeReady e = true → mergeSettle (n + 1) s = mergeSettle n (mergeTurn e s)) ∧
    ((s.mergeTable.map (·.block)).Nodup →
      (s.mergeTable.map fun m => m.waits.length).sum ≤ s.pendingList.length →
      ∀ e ∈ (mergeRun s).mergeTable, mergeReady e = false)

/-- Bit b of the stored value of lane i is block bit D × i + b, block bit m is bit m mod 8 of block
byte m div 8, and unpacking takes the bits back from the same places (R37). -/
def Obligations.PackingPlacesEveryBit : Prop :=
  ∀ depth : Nat, depth = 8 ∨ depth = 10 ∨ depth = 12 →
    (∀ (stored : Stored) (i : Fin 32) (b : Nat), b < depth →
      let block := ((packWords depth stored).map bytesOf).flatten
      let m := depth * i.val + b
      block.length = 4 * depth ∧ (block.getD (m / 8) 0).getLsbD (m % 8) = stored[i].getLsbD b) ∧
    (∀ (words : List Word) (i : Fin 32) (b : Nat), words.length = depth / 2 →
      let block := (words.map bytesOf).flatten
      let m := depth * i.val + b
      (unpackWords depth words)[i].getLsbD b
        = (decide (b < depth) && (block.getD (m / 8) 0).getLsbD (m % 8))) ∧
    (∀ stored : Stored, (∀ i : Fin 32, stored[i].toNat < 2 ^ depth) →
      unpackWords depth (packWords depth stored) = stored)

/-- Depth reduction rounds halves upward and saturates in the top 2^(k − 1) values of the lane width;
expansion is its inverse; and a merged lane takes an enabled, unmasked bit from the data and every other
bit from the expanded old value, an untouched lane nothing (R39, R41, R45). A read takes each lane of its
words expanded from the block's stored value, four lanes to a word (R35, R46, R56). -/
def Obligations.LanesAreReducedExpandedAndMerged : Prop :=
  ∀ width depth : Nat, (width = 8 ∨ width = 10 ∨ width = 12 ∨ width = 16) →
    (depth = 8 ∨ depth = 10 ∨ depth = 12) → depth ≤ width →
    (∀ lane : BitVec 16,
      let v := lane.toNat % 2 ^ width
      let r := reduceLane width depth lane
      (width = depth → r.1.toNat = v ∧ r.2 = false) ∧
      (depth < width →
        let k := width - depth
        r.1.toNat = min (2 ^ depth - 1) ((v + 2 ^ (k - 1)) / 2 ^ k) ∧
        (r.2 = true ↔ 2 ^ width - 2 ^ (k - 1) ≤ v))) ∧
    (∀ stored : BitVec 12, stored.toNat < 2 ^ depth →
      (expandLane width depth stored).toNat = stored.toNat * 2 ^ (width - depth) ∧
      reduceLane width depth (expandLane width depth stored) = (stored, false)) ∧
    (∀ (mask : BitVec 16) (first : Nat) (ws : List WriteWord) (old : Stored) (i : Fin 32),
      ∀ enabled : Nat → Bool, enabled = (fun b =>
        decide (first ≤ i.val / 4) &&
          match ws[i.val / 4 - first]? with
          | none => false
          | some w => w.enables.getLsbD (2 * (i.val % 4) + b / 8)) →
      ((∀ b < 16, enabled b = false) → mergeLane width depth mask first ws old i = (old[i], false)) ∧
      ((∃ b < 16, enabled b = true) →
        ∃ m : BitVec 16, mergeLane width depth mask first ws old i = reduceLane width depth m ∧
          ∀ b < 16, m.getLsbD b =
            if enabled b && mask.getLsbD b then
              ((ws.getD (i.val / 4 - first) ⟨0, 0⟩).data).getLsbD (16 * (i.val % 4) + b)
            else (expandLane width depth old[i]).getLsbD b)) ∧
    (∀ (words : List Word) (i b : Nat), b < 16 →
      (laneOf words i).getLsbD b = (words.getD (i / 4) 0).getLsbD (16 * (i % 4) + b)) ∧
    (∀ (stored : Stored) (first n : Nat),
      ∀ words, words = expandWords width depth stored first n →
      words.length = n ∧
      ∀ (k l : Nat) (i : Fin 32), k < n → l < 4 → i.val = 4 * (first + k) + l →
        laneOf words (4 * k + l) = expandLane width depth stored[i])

/-! ### Packets -/

/-- R70: which headers are malformed, and the payload start of the others, handed to the tracker with a
disposition that keeps the packet. -/
def Obligations.MalformedHeadersAndPayloadStart : Prop :=
  ∀ h : Header,
    (malformed h = true ↔
      h.sync ≠ 0x47#8 ∨ h.code = 1#2 ∨ h.adaptation = 0#2 ∨
      (h.adaptation = 3#2 ∧ 182 < h.length.toNat) ∨ (h.adaptation = 2#2 ∧ h.length.toNat ≠ 183)) ∧
    (malformed h = false →
      (h.adaptation = 1#2 → payloadStart h = some 8) ∧
      (h.adaptation = 3#2 → payloadStart h = some (9 + h.length.toNat) ∧
        9 ≤ 9 + h.length.toNat ∧ 9 + h.length.toNat ≤ 191) ∧
      (h.adaptation = 2#2 → payloadStart h = none)) ∧
    (∀ (s : State) (p : PendingEntry) (n : ApertureNo) (slot : Addr) (d : Decision) (ws : List WriteWord),
      openingHeader ws = h → d.disposition ≠ .null →
      (openingEntry s p n slot d ws).disposition = d.disposition ∧
      (openingEntry s p n slot d ws).payloadStart = payloadStart h) ∧
    (∀ (stream : List Byte) (start k : Nat) (b : Byte), payloadStart h = some start →
      (k < start → combine stream (payloadStart h) k b = b) ∧
      (start ≤ k → combine stream (payloadStart h) k b = b ^^^ stream.getD (k - start) 0))

/-- The disposition of an opening by the steps of R71, with the stream map's lookup by input PID (R79),
and by its service's state (R72, R78, R109). An opening counts its packet (R78), gives record MALFORMED
if it is malformed, with the PID when bytes 5 and 6 are enabled (R77), opens the tracker's entry,
superseding the entry of its slot, or evicting the oldest of 20 with its record, and becoming a user of
its key slot (R86, R87, R88), and hands its words to the memory port (R12). The header's fields stand
where the layout puts them (R67), a proper opening has its first 16 enables set (R69), and the entry has
the contents of R73 and R86. That MALFORMED precedes the record of an eviction is the model's choice
(log 13). -/
def Obligations.DispositionOfAnOpening : Prop :=
  (∀ (s : State) (unlisted : ClearOrNull) (ws : List WriteWord),
    ∀ h d, h = openingHeader ws → d = decideOpening s unlisted ws →
    (proper ws = false ∨ malformed h = true → d = ⟨.null, 0, none, true⟩) ∧
    (proper ws = true → malformed h = false →
      (h.pid.toNat ≤ 0x1F ∨ h.pid.toNat = 0x1FFF → d = ⟨.clear, h.pid, none, false⟩) ∧
      (0x1F < h.pid.toNat → h.pid.toNat ≠ 0x1FFF →
        (h.code = 2#2 ∨ h.code = 3#2 →
          (findInput s h.pid = none → d = ⟨.pass, h.pid, none, false⟩) ∧
          (∀ e, findInput s h.pid = some e → d = ⟨.pass, effectiveOutput e, none, false⟩)) ∧
        (h.code = 0#2 →
          (findInput s h.pid = none →
            d = ⟨match unlisted with | .clear => .clear | .null => .null, h.pid, none, false⟩) ∧
          (∀ e, findInput s h.pid = some e →
            ∀ pid, pid = effectiveOutput e →
            (e.treatment = .clear → d = ⟨.clear, pid, none, false⟩) ∧
            (e.treatment = .null → d = ⟨.null, pid, none, false⟩) ∧
            (∀ i : ServiceNo, e.treatment = .scramble → e.service = some i →
              ∀ v, v = s.services[i] →
              (∀ p, v.state = .running ∨ v.state = .starved → activePhase v = some p →
                d = ⟨.scramble i p, pid, none, false⟩) ∧
              (v.state = .idle → v.policy = .clear → d = ⟨.clear, pid, none, false⟩) ∧
              (v.state = .idle → v.policy = .null → d = ⟨.null, pid, some i, false⟩) ∧
              (v.state = .withholding → d = ⟨.null, pid, some i, false⟩))))))) ∧
  (∀ (s : State) (pid : Pid),
    (findInput s pid = none ↔ ∀ i : StreamNo, s.streams[i].valid = true → s.streams[i].input ≠ pid) ∧
    (∀ e, findInput s pid = some e →
      ∃ i : StreamNo, e = s.streams[i] ∧ e.valid = true ∧ e.input = pid)) ∧
  (∀ e : StreamEntry,
    (e.output = none → effectiveOutput e = e.input) ∧ (∀ o, e.output = some o → effectiveOutput e = o)) ∧
  (∀ ws : List WriteWord,
    (proper ws = true ↔ ∃ a b rest, ws = a :: b :: rest ∧ a.enables = 0xFF ∧ b.enables = 0xFF) ∧
    openingHeader ws = headerOf (ws.getD 0 ⟨0, 0⟩).data (ws.getD 1 ⟨0, 0⟩).data) ∧
  (∀ (w v : Word) (h : Header), h = headerOf w v →
    ∀ b : Nat → Nat, b = (fun n => (if n < 8 then w.toNat / 256 ^ n else v.toNat / 256 ^ (n - 8)) % 256) →
    h.stamp.toNat = b 0 + 256 * b 1 + 65536 * b 2 + 16777216 * b 3 ∧ h.sync.toNat = b 4 ∧
    h.pid.toNat = b 5 % 32 * 256 + b 6 ∧ h.code.toNat = b 7 / 64 ∧ h.adaptation.toNat = b 7 / 16 % 4 ∧
    h.continuity.toNat = b 7 % 16 ∧ h.length.toNat = b 8) ∧
  (∀ (s : State) (p : PendingEntry) (n : ApertureNo) (slot : Addr) (d : Decision) (ws : List WriteWord)
    (covered : BitVec 24),
    (∀ k < 24, covered.getLsbD k = decide (k < ws.length)) →
    ∀ h, h = openingHeader ws →
    openingEntry s p n slot d ws =
      if d.disposition = .null then
        ⟨slot, n, p.request.initiator, .null, none, 0, 0, 0, covered, s.time.tickCount⟩
      else
        ⟨slot, n, p.request.initiator, d.disposition, payloadStart h, h.stamp, d.pid, h.continuity,
          covered, s.time.tickCount⟩) ∧
  (∀ (s : State) (p : PendingEntry) (n : ApertureNo) (unlisted : ClearOrNull) (ref : SegRef) (g : Segment)
    (slot : Addr) (ws : List WriteWord),
    ∀ d, d = decideOpening s unlisted ws →
    ∀ counted, counted =
      (match d.disposition, d.nulled with
      | .scramble i _, _ => { s with
          services := s.services.set i { s.services[i] with scrambled := s.services[i].scrambled + 1 } }
      | _, some i => { s with
          services := s.services.set i { s.services[i] with nulled := s.services[i].nulled + 1 } }
      | _, none => s) →
    ∀ word, word = ws.getD 0 ⟨0, 0⟩ →
    ∀ reported, reported =
      (if d.malformed then
        offer ⟨.malformed, p.request.initiator, .write, g.address, s.time.tickCount.setWidth 16, some n,
          if word.enables.getLsbD 5 = true ∧ word.enables.getLsbD 6 = true then
            some (openingHeader ws).pid else none,
          none, none, none⟩ counted
      else counted) →
    ∀ t, t = openEntry (openingEntry s p n slot d ws) reported →
    handOpening p n unlisted ref g slot ws s = { t with
      waiting := s.waiting ++
        [⟨⟨⟨p.request.initiator, p.request.tag, .write (openingWords t d ws), g.address⟩,
          .segment ref .lower⟩, false⟩] }) ∧
  (∀ (s : State) (e : TrackerEntry),
    ∀ added : State → State, added = (fun t =>
      match e.disposition with
      | .scramble i p => { t with
          tracker := t.tracker ++ [e]
          services := t.services.set i (withKeySlot p
            { keySlot t.services[i] p with users := (keySlot t.services[i] p).users + 1 }
            t.services[i]) }
      | .clear | .pass | .null => { t with tracker := t.tracker ++ [e] }) →
    (∀ before x after, s.tracker = before ++ x :: after → (∀ y ∈ before, y.slot ≠ e.slot) →
      x.slot = e.slot → s.tracker.length ≤ 20 → openEntry e s = added (closeEntry x s)) ∧
    ((∀ y ∈ s.tracker, y.slot ≠ e.slot) →
      (s.tracker.length < 20 → openEntry e s = added s) ∧
      (∀ x rest, s.tracker = x :: rest → 20 ≤ s.tracker.length →
        openEntry e s = added (closeEntry x (offer
          ⟨.abandoned, x.initiator, .write, x.slot, s.time.tickCount.setWidth 16, some x.aperture,
            if x.disposition = .null then none else some x.pid,
            match x.disposition with | .scramble i _ => some i | .clear | .pass | .null => none,
            some .evicted, none⟩ s)))))

/-- A kept header has its PID in slot bytes 5 and 6 and its key-phase code in byte 7 rewritten, every
other byte and every enable kept (R74); null content replaces every byte but the stamp's, with all their
enables set (R75). An opening and a continuation write by disposition: null content, or the words kept,
under SCRAMBLE with the keystream of the entry's key and nonce from the payload start on (R74, R75, R89,
R90, R99), so that no payload byte of an open SCRAMBLE entry goes without it (R100). A continuation marks
its words and closes the entry at 24 words (R91). -/
def Obligations.WordsThatAnOpeningWrites : Prop :=
  (∀ (first : Nat) (ws : List WriteWord) (k j : Nat) (w : WriteWord), ws[k]? = some w → j < 8 →
    ∀ n, n = 8 * (first + k) + j →
    (∃ x : WriteWord, (nullWords first ws)[k]? = some x ∧
      (n < 4 → byteOf x.data j = byteOf w.data j ∧ x.enables.getLsbD j = w.enables.getLsbD j) ∧
      (4 ≤ n → x.enables.getLsbD j = true ∧
        byteOf x.data j =
          if n = 4 then 0x47 else if n = 5 then 0x1F else if n = 6 then 0xFF
          else if n = 7 then 0x10 else 0xFF)) ∧
    (∀ (pid : Pid) (code : BitVec 2),
      ∃ x : WriteWord, (keptWords first (rewriteByte pid code) ws)[k]? = some x ∧
        x.enables = w.enables ∧
        byteOf x.data j =
          if n = 5 then (byteOf w.data j &&& 0xE0#8) ||| BitVec.ofNat 8 (pid.toNat / 256)
          else if n = 6 then BitVec.ofNat 8 pid.toNat
          else if n = 7 then (byteOf w.data j &&& 0x3F#8) ||| BitVec.ofNat 8 (64 * code.toNat)
          else byteOf w.data j) ∧
    (∀ f : Nat → Byte → Byte, ∃ x : WriteWord, (keptWords first f ws)[k]? = some x ∧
      x.enables = w.enables ∧ byteOf x.data j = f n (byteOf w.data j))) ∧
  (∀ (s : State) (d : Decision) (ws : List WriteWord), ∀ h, h = openingHeader ws →
    (openingWords s d ws).length = ws.length ∧
    (d.disposition = .null → openingWords s d ws = nullWords 0 ws) ∧
    (d.disposition = .clear ∨ d.disposition = .pass →
      openingWords s d ws = keptWords 0 (rewriteByte d.pid h.code) ws) ∧
    (∀ i p, d.disposition = .scramble i p →
      ∀ stream, stream = keystream (keySlot s.services[i] p).key ⟨h.stamp, d.pid, h.continuity, i.val⟩ →
      openingWords s d ws = keptWords 0 (fun n b =>
        combine stream (payloadStart h) n
          (rewriteByte d.pid (match p with | .a => 2#2 | .b => 3#2) n b)) ws)) ∧
  (∀ (s : State) (e : TrackerEntry) (first : Nat) (ws : List WriteWord),
    (continuationWords s e first ws).length = ws.length ∧
    (e.disposition = .null → continuationWords s e first ws = nullWords first ws) ∧
    (e.disposition = .clear ∨ e.disposition = .pass → continuationWords s e first ws = ws) ∧
    (∀ i p, e.disposition = .scramble i p →
      ∀ stream, stream = keystream (keySlot s.services[i] p).key ⟨e.stamp, e.pid, e.continuity, i.val⟩ →
      continuationWords s e first ws = keptWords first (combine stream e.payloadStart) ws)) ∧
  (∀ (s : State) (p : PendingEntry) (n : ApertureNo) (ref : SegRef) (g : Segment) (slot : Addr)
    (first : Nat) (ws : List WriteWord) (before after : List TrackerEntry) (e : TrackerEntry),
    s.tracker = before ++ e :: after → (∀ x ∈ before, x.slot ≠ slot) → e.slot = slot →
    ∀ w, w = { s with waiting := s.waiting ++
      [⟨⟨⟨p.request.initiator, p.request.tag, .write (continuationWords s e first ws), g.address⟩,
        .segment ref .lower⟩, false⟩] } →
    ∃ e' : TrackerEntry,
      e' = { e with written := e'.written, lastWrite := s.time.tickCount } ∧
      (∀ k < 24, e'.written.getLsbD k = (e.written.getLsbD k || decide (first ≤ k ∧ k < first + ws.length))) ∧
      ((∃ k < 24, e'.written.getLsbD k = false) →
        handContinuation p n ref g slot first ws s =
          { w with tracker := s.tracker.map fun x => if x.slot = slot then e' else x }) ∧
      ((∀ k < 24, e'.written.getLsbD k = true) →
        handContinuation p n ref g slot first ws s = closeEntry e w))

/-- A continuation of a slot with no open entry is an orphan: its segment ends REFUSED, nothing of it is
handed to the memory port, and record ORPHAN is produced (R93). -/
def Obligations.OrphanContinuationIsRefused : Prop :=
  ∀ (s : State) (p : PendingEntry) (n : ApertureNo) (ref : SegRef) (g : Segment) (slot : Addr)
    (first : Nat) (ws : List WriteWord),
    (∀ e ∈ s.tracker, e.slot ≠ slot) →
    handContinuation p n ref g slot first ws s =
      { offer ⟨.orphan, p.request.initiator, .write, g.address, s.time.tickCount.setWidth 16, some n,
          none, none, none, none⟩ s with
        pendingList := s.pendingList.map fun e =>
          if e.id = ref.id then
            { e with segments := e.segments.modify ref.index fun x =>
                { x with state := .refused, data := [] } }
          else e }

/-- Keystream byte j is byte j mod 16 of the cipher's output for counter block j div 16, laid out from
stamp, PID, continuity count, service and block number; the same keystream combined twice gives back the
data; and the cipher gives the manual's block (R98, R105). A packet segment goes by its kind (R68, R83).
A clear read settles its header from the open entry, from its data, or by a fetch of initiator 15 (R101,
R102); a stored header gives its key by the stream map's output PID and the key slot of its phase, or a
failure (R103, R104); and the data is returned descrambled byte by byte of the slot, or as stored
(R105). -/
def Obligations.KeystreamIsItsOwnInverse : Prop :=
  (∀ (key : ControlWord) (n : Nonce) (j : Nat), j < 192 →
    (keystream key n).getD j 0 = (aes128 key.toList (counterBlock n (j / 16))).getD (j % 16) 0) ∧
  (∀ (stream : List Byte) (start : Option Nat) (first : Nat) (words : List Word),
    mapSlotWords first (combine stream start) (mapSlotWords first (combine stream start) words) = words) ∧
  aes128 ((List.range 16).map natByte) ((List.range 16).map fun k => natByte (17 * k)) =
    [0x69, 0xC4, 0xE0, 0xD8, 0x6A, 0x7B, 0x04, 0x30, 0xD8, 0xCD, 0xB7, 0x80, 0x70, 0xB4, 0xC5, 0x5A] ∧
  (∀ (n : Nonce) (k : Nat), counterBlock n k =
    [n.stamp.setWidth 8, (n.stamp >>> 8).setWidth 8, (n.stamp >>> 16).setWidth 8,
      (n.stamp >>> 24).setWidth 8, (n.pid >>> 8).setWidth 8, n.pid.setWidth 8, n.continuity.setWidth 8,
      BitVec.ofNat 8 n.service, 0, 0, 0, 0, 0, 0, BitVec.ofNat 8 (k / 256), BitVec.ofNat 8 k]) ∧
  (∀ (s : State) (p : PendingEntry) (n : ApertureNo) (base : Nat) (clearRead : InitiatorSet)
    (unlisted : ClearOrNull) (ref : SegRef) (g : Segment) (slot : Addr) (first : Nat),
    p.aperture = some ⟨n, base, .packet clearRead unlisted⟩ →
    ∀ read, read = (⟨⟨⟨p.request.initiator, p.request.tag, g.op, g.address⟩,
      .segment ref .lower⟩, false⟩ : Waiting) →
    (∀ ws, g.op = .write ws →
      handPacket p ref g slot first s =
        if first = 0 then handOpening p n unlisted ref g slot ws s
        else handContinuation p n ref g slot first ws s) ∧
    (∀ k, g.op = .read k →
      (inSet clearRead p.request.initiator = false →
        handPacket p ref g slot first s = { s with waiting := s.waiting ++ [read] }) ∧
      (inSet clearRead p.request.initiator = true →
        (∀ before e after, s.tracker = before ++ e :: after → (∀ x ∈ before, x.slot ≠ slot) →
          e.slot = slot →
          ∀ plan, plan =
            (match e.disposition, e.payloadStart with
            | .scramble i ph, some start =>
              .keyed ⟨(keySlot s.services[i] ph).key, ⟨e.stamp, e.pid, e.continuity, i.val⟩, start⟩
            | _, _ => .asStored) →
          handPacket p ref g slot first s =
            { setWork ref (.clear plan) s with waiting := s.waiting ++ [read] }) ∧
        ((∀ x ∈ s.tracker, x.slot ≠ slot) →
          (first = 0 → 2 ≤ k →
            handPacket p ref g slot first s =
              { setWork ref (.clear .fromData) s with waiting := s.waiting ++ [read] }) ∧
          (first ≠ 0 ∨ k < 2 →
            handPacket p ref g slot first s =
              { setWork ref (.clear .fetching) s with waiting := s.waiting ++
                [⟨⟨⟨15, p.request.tag, .read 2, slot⟩, .header ref⟩, false⟩] }))))) ∧
  (∀ (s : State) (pid : Pid),
    (findOutput s pid = none ↔
      ∀ i : StreamNo, s.streams[i].valid = true → effectiveOutput s.streams[i] ≠ pid) ∧
    (∀ e, findOutput s pid = some e →
      ∃ i : StreamNo, e = s.streams[i] ∧ e.valid = true ∧ effectiveOutput e = pid)) ∧
  (∀ (s : State) (h : Header),
    (h.code = 0#2 ∨ h.code = 1#2 → settlePlan s h = .ok .asStored) ∧
    (h.code = 2#2 ∨ h.code = 3#2 →
      (malformed h = true → settlePlan s h = .error none) ∧
      (malformed h = false → payloadStart h = none → settlePlan s h = .ok .asStored) ∧
      (∀ start, malformed h = false → payloadStart h = some start →
        (findOutput s h.pid = none → settlePlan s h = .error none) ∧
        (∀ e, findOutput s h.pid = some e →
          (e.service = none → settlePlan s h = .error none) ∧
          (∀ i, e.service = some i →
            ∀ k, k = keySlot s.services[i] (if h.code = 2#2 then .a else .b) →
            (k.state = .empty → settlePlan s h = .error (some i)) ∧
            (k.state ≠ .empty → settlePlan s h =
              .ok (.keyed ⟨k.key, ⟨h.stamp, h.pid, h.continuity, i.val⟩, start⟩))))))) ∧
  (∀ (plan : ClearPlan) (first : Nat) (words : List Word),
    (∀ d, plan = .keyed d → clearData plan first words =
      mapSlotWords first (combine (keystream d.key d.nonce) (some d.start)) words) ∧
    ((∀ d, plan ≠ .keyed d) → clearData plan first words = words)) ∧
  (∀ (first : Nat) (f : Nat → Byte → Byte) (words : List Word),
    ∀ mapped, mapped = mapSlotWords first f words →
    mapped.length = words.length ∧
    ∀ k j, k < words.length → j < 8 →
      byteOf (mapped.getD k 0) j = f (8 * (first + k) + j) (byteOf (words.getD k 0) j))

/-! ### Operations that many commands share -/

/-- A record offered to the capture queue joins its tail, setting CAPTURE_READY if the queue was empty,
or is lost when 48 are held, setting the overrun indication and CAPTURE_OVERRUN (R165, R167). A cause
sets its flag, enabled or not, and raises its group when its enable is set (R168, R170). -/
def Obligations.ReportsAreRecorded : Prop :=
  (∀ (s : State) (r : CaptureRecord),
    (s.capture = [] → offer r s = setCause .captureReady { s with capture := [r] }) ∧
    (s.capture ≠ [] → s.capture.length < 48 → offer r s = { s with capture := s.capture ++ [r] }) ∧
    (48 ≤ s.capture.length → offer r s = setCause .captureOverrun { s with overrun := true })) ∧
  (∀ (s : State) (c : Cause), ∃ t, setCause c s = t ∧
    (∀ d, flagOf t d = (flagOf s d || decide (d = c))) ∧
    (∀ g, raisedOf t g = (raisedOf s g || (decide (g = causeGroup c) && enableOf s c))) ∧
    t = { s with flags := t.flags, raised := t.raised })

/-- A change of a service sets KEY_WANTED when its key-wanted indication becomes set (R125). A close
removes the entry and takes one user from its key slot, and a RETIRING slot past its guard that this
leaves without users becomes EMPTY with its word zeroed and its age kept (R88, R94, R123). The next slot
is the one that is not ACTIVE, in a service with an ACTIVE slot (R108). -/
def Obligations.ServiceChangesAndCloses : Prop :=
  (∀ v : Service, keyWanted v = true ↔
    v.state ≠ .idle ∧ (activePhase v = none ∨ nextState v = some .empty)) ∧
  (∀ v : Service,
    (v.slotA.state = .active → activePhase v = some .a ∧ nextState v = some v.slotB.state) ∧
    (v.slotA.state ≠ .active → v.slotB.state = .active →
      activePhase v = some .b ∧ nextState v = some v.slotA.state) ∧
    (v.slotA.state ≠ .active → v.slotB.state ≠ .active → activePhase v = none ∧ nextState v = none)) ∧
  (∀ (s : State) (i : ServiceNo) (v : Service),
    putService i v s =
      if keyWanted s.services[i] = false ∧ keyWanted v = true then
        setCause .keyWanted { s with services := s.services.set i v }
      else { s with services := s.services.set i v }) ∧
  (∀ (s : State) (e : TrackerEntry),
    ∀ rest, rest = s.tracker.filter (fun x => decide (x.slot ≠ e.slot)) →
    (isScramble e.disposition = false → closeEntry e s = { s with tracker := rest }) ∧
    (∀ i p, e.disposition = .scramble i p →
      ∀ v k, v = s.services[i] → k = keySlot v p →
      ∀ w, w = { s with
          tracker := rest
          services := s.services.set i (withKeySlot p { k with users := k.users - 1 } v) } →
      (k.state = .retiring → v.guard ≤ k.age → k.users ≤ 1 →
        closeEntry e s =
          putService i (withKeySlot p ⟨.empty, Vector.replicate 16 0, 0, k.age⟩ v) w) ∧
      (k.state ≠ .retiring ∨ k.age < v.guard ∨ 1 < k.users → closeEntry e s = w)))

/-- A free engine chooses the lowest eligible slot below B; with none, the eligible slot at or above B
that comes first after the remembered slot, which it then remembers; the chosen slot is RUNNING and its
first request is presented. With none eligible, or a slot RUNNING, nothing changes (R151, R152, R153).
A request goes from the cursor's address to the end of the range, of its line, or of what its kind gives
(R153, R156 to R159), and a FILL's words are null content by slot position where its first address lies
in a packet aperture, and the pattern elsewhere (R156). -/
def Obligations.SelectionFollowsTheExamination : Prop :=
  (∀ s : State,
    (∀ j : JobNo, s.jobs[j].state = .running → select s = s) ∧
    ((∀ j : JobNo, eligible s j = false) → select s = s) ∧
    (∀ j : JobNo, eligible s j = true ↔
      (s.jobs[j].state = .pending ∨ s.jobs[j].state = .suspended) ∧
      (s.jobs[j].config.windowBound = true → s.time.windowOpen = true)) ∧
    ((∀ j : JobNo, s.jobs[j].state ≠ .running) → ∀ j : JobNo, eligible s j = true →
      ∀ start, start = (fun (t : State) =>
        let t := { t with jobs := t.jobs.set j { t.jobs[j] with state := .running } }
        { t with run := some ⟨j, (firstRequest t j).2, (firstRequest t j).1, false⟩ }) →
      (j.val < s.boundary → (∀ k : JobNo, k < j → eligible s k = false) → select s = start s) ∧
      (s.boundary ≤ j.val → (∀ k : JobNo, k.val < s.boundary → eligible s k = false) →
        (∀ k : JobNo, s.boundary ≤ k.val → eligible s k = true →
          (j.val + 5 - s.remembered.val) % 6 ≤ (k.val + 5 - s.remembered.val) % 6) →
        select s = start { s with remembered := j }))) ∧
  (∀ (s : State) (j : JobNo),
    ∀ c left source target room, c = s.jobs[j].config → left = c.length - s.jobs[j].cursor →
      source = c.source + BitVec.ofNat 32 (8 * s.jobs[j].cursor) →
      target = c.target + BitVec.ofNat 32 (8 * s.jobs[j].cursor) →
      room = (fun a : Addr => 16 - a.toNat / 8 % 16) →
    ∀ request : Op → Addr → Request,
      request = (fun op a => ⟨15, ⟨j.val, Nat.lt_trans j.isLt (by decide)⟩, op, a⟩) →
    (c.kind = .fill →
      firstRequest s j = (.fillWrite, request (.write
        ((fillWords s c.pattern target (min left (room target))).map fun w => ⟨w, 0xFF⟩)) target)) ∧
    (c.kind = .convert →
      firstRequest s j =
        (.convertRead, request (.read (min left (min (room source) (room target)))) source)) ∧
    (c.kind = .sweep → firstRequest s j = (.sweepFirst, request (.read (min 24 (room target))) target)) ∧
    (c.kind = .digest →
      firstRequest s j = (.digestRead, request (.read (min left (room source))) source))) ∧
  (∀ (s : State) (pattern : Word) (address : Addr) (n : Nat),
    ∀ words, words = fillWords s pattern address n →
    words.length = n ∧
    ((∀ i : ApertureNo, findAperture s address = some i → s.apertures[i].view ≠ .packet) →
      words = List.replicate n pattern) ∧
    (∀ i : ApertureNo, findAperture s address = some i → s.apertures[i].view = .packet →
      ∀ k j, k < n → j < 8 →
      ∀ b, b = ((address + BitVec.ofNat 32 (8 * k)).toNat - s.apertures[i].base * 4096) % 192 / 8 * 8 + j →
      byteOf (words.getD k 0) j =
        if b < 4 then 0x00 else if b = 4 then 0x47 else if b = 5 then 0x1F else if b = 6 then 0xFF
        else if b = 7 then 0x10 else 0xFF))

/-- A trigger is delivered to every slot configured for it and to no other; it makes an IDLE slot PENDING
from its beginning, sets the overflow flag of a busy one and the cause, and is lost on a DISABLED one
(R148, R149). TRIGGER_OVERFLOW is set, and its group raised when the cause is enabled, by a busy slot
alone (R149, R168, R170). The same holds of a trigger that reaches one named slot, whatever its
configured trigger (R150). -/
def Obligations.TriggersReachTheirSlots : Prop :=
  ∀ busy : JobState → Prop, busy = (fun x => x = .pending ∨ x = .running ∨ x = .suspended) →
  (∀ (s : State) (j : JobNo) (v : JobSlot), v = s.jobs[j] →
    (v.state = .disabled → triggerSlot j s = s) ∧
    (v.state = .idle → triggerSlot j s = { s with
      jobs := s.jobs.set j
        { v with state := .pending, cursor := 0, digest := 0xFFFFFFFF#32, swept := 0 } }) ∧
    (busy v.state → triggerSlot j s =
      setCause .triggerOverflow { s with jobs := s.jobs.set j { v with overflow := true } })) ∧
  ∀ (s : State) (trigger : Trigger), ∃ t, deliver trigger s = t ∧
    (∀ j : JobNo, ∀ v, v = s.jobs[j] →
      (v.config.trigger ≠ trigger ∨ v.state = .disabled → t.jobs[j] = v) ∧
      (v.config.trigger = trigger → v.state = .idle →
        t.jobs[j] = { v with state := .pending, cursor := 0, digest := 0xFFFFFFFF#32, swept := 0 }) ∧
      (v.config.trigger = trigger → busy v.state → t.jobs[j] = { v with overflow := true })) ∧
    (∀ lost : Prop, lost = (∃ j : JobNo, s.jobs[j].config.trigger = trigger ∧ busy s.jobs[j].state) →
      (flagOf t .triggerOverflow = true ↔ flagOf s .triggerOverflow = true ∨ lost) ∧
      (∀ g, raisedOf t g = true ↔
        raisedOf s g = true ∨ (lost ∧ g = .jobs ∧ enableOf s .triggerOverflow = true))) ∧
    (∀ c, c ≠ .triggerOverflow → flagOf t c = flagOf s c) ∧
    t = { s with jobs := t.jobs, flags := t.flags, raised := t.raised }

/-- A job's response: REFUSED or FAULT ends the run FAULTED with its record and cause; DONE moves the run
on by its kind, and at a stopping point ends it DONE at the length with its result, cause and completion
trigger, or else at an enable of 0 ABORTED, at a closed window suspended, and otherwise with the next
request (R146, R153 to R156, R159, R160). A CONVERT writes what it read (R157); a SWEEP reads a unit in
two parts, skips it or rewrites it in two, with no stopping point between the writes (R153, R158). With
the window closed a SWEEP is suspended at its unit's start (R160); that a skipped last unit still
completes the run, and that a run whose enable is 0 counts a skipped unit, is the model's reading
(log 33). The digest is the CRC-32 of R159 over the bytes of each word from byte 0. -/
def Obligations.JobResponsesMoveTheRun : Prop :=
  (∀ shift : BitVec 32 → BitVec 32, shift = (fun c =>
      if c.getLsbD 0 then (c >>> 1) ^^^ 0xEDB88320#32 else c >>> 1) →
    ∀ take : BitVec 32 → Byte → BitVec 32, take = (fun c b => shift^[8] (c ^^^ b.setWidth 32)) →
    (∀ (c : BitVec 32) (words : List Word), digestWords c words =
      ((words.map fun (w : Word) => (List.range 8).map fun k =>
        (w >>> (8 * k)).setWidth 8).flatten).foldl take c) ∧
    ~~~([0x31, 0x32, 0x33, 0x34, 0x35, 0x36, 0x37, 0x38, 0x39].foldl take 0xFFFFFFFF#32)
      = 0xCBF43926#32) ∧
  ∀ (s : State) (r : JobRun) (data : List Word) (a : Option ApertureNo), s.run = some r →
    ∀ (j : JobNo) (v : JobSlot), j = r.slot → v = s.jobs[j] →
    ∀ back : JobState, back = (if v.config.enable then .idle else .disabled) →
    (∀ st, st = .refused ∨ st = .fault →
      jobResponse st data a s =
        select (setCause .jobFault (offer
          ⟨.jobFault, 15, opKind r.request.op, r.request.address, s.time.tickCount.setWidth 16, a,
            none, none, none, some j⟩
          { s with
            run := none
            jobs := s.jobs.set j { v with
              state := back
              result := ⟨.faulted, v.cursor, if v.config.kind = .sweep then v.swept else 0, 0,
                some (st, r.request.address)⟩ } }))) ∧
    ∀ ended : JobSlot → JobStatus → State, ended = (fun x st => { s with
        run := none
        jobs := s.jobs.set j { x with
          state := back
          result := ⟨st, x.cursor, if v.config.kind = .sweep then x.swept else 0,
            if st = .done ∧ v.config.kind = .digest then ~~~x.digest else 0, none⟩ } }) →
    ∀ stops : JobSlot → (State → JobPhase × Request) → Prop, stops = (fun x next =>
      (v.config.length ≤ x.cursor →
        jobResponse .done data a s = select (deliver (.done j) (setCause .jobDone (ended x .done)))) ∧
      (x.cursor < v.config.length → v.config.enable = false →
        jobResponse .done data a s = select (setCause .jobAborted (ended x .aborted))) ∧
      (x.cursor < v.config.length → v.config.enable = true → v.config.windowBound = true →
        s.time.windowOpen = false →
        jobResponse .done data a s =
          select { s with run := none, jobs := s.jobs.set j { x with state := .suspended } }) ∧
      (x.cursor < v.config.length → v.config.enable = true →
        v.config.windowBound = false ∨ s.time.windowOpen = true →
        ∀ w, w = { s with jobs := s.jobs.set j x } →
        jobResponse .done data a s =
          { w with run := some ⟨j, (next w).2, (next w).1, false⟩ })) →
    ∀ target k, target = v.config.target + BitVec.ofNat 32 (8 * v.cursor) →
      k = min 24 (16 - target.toNat / 8 % 16) →
    ∀ request : Op → Addr → Request,
      request = (fun op x => ⟨15, ⟨j.val, Nat.lt_trans j.isLt (by decide)⟩, op, x⟩) →
    ∀ whole : List Word → Op, whole = (fun ws => .write (ws.map fun w => ⟨w, 0xFF⟩)) →
    ∀ onward : State → JobPhase × Request, onward = (fun w => firstRequest w j) →
    (r.phase = .fillWrite ∨ r.phase = .convertWrite →
      stops { v with cursor := v.cursor + opLength r.request.op } onward) ∧
    (r.phase = .digestRead →
      stops { v with cursor := v.cursor + opLength r.request.op, digest := digestWords v.digest data }
        onward) ∧
    (r.phase = .convertRead →
      stops v fun _ => (.convertWrite, request (whole data) target)) ∧
    (r.phase = .sweepFirst →
      stops v fun _ => (.sweepSecond data,
        request (.read (24 - k)) (target + BitVec.ofNat 32 (8 * k)))) ∧
    (∀ first unit h, r.phase = .sweepSecond first → unit = first ++ data →
      h = headerOf (unit.getD 0 0) (unit.getD 1 0) →
      ∀ rewritten : Prop, rewritten = (h.code = 0#2 ∧ ∃ (e : StreamEntry) (i : ServiceNo),
        findInput s h.pid = some e ∧ e.treatment = .scramble ∧ e.service = some i ∧
        (s.services[i].state = .running ∨ s.services[i].state = .starved)) →
      (rewritten → stops v fun _ => (.sweepOpening unit, request (whole (unit.take k)) target)) ∧
      ∀ held : Prop, held = (v.cursor + 24 < v.config.length ∧ v.config.enable = true ∧
        v.config.windowBound = true ∧ s.time.windowOpen = false) →
      (¬ rewritten → held → jobResponse .done data a s =
        select { s with run := none, jobs := s.jobs.set j { v with state := .suspended } }) ∧
      (¬ rewritten → ¬ held → stops { v with cursor := v.cursor + 24 } onward)) ∧
    (∀ unit, r.phase = .sweepOpening unit →
      jobResponse .done data a s = { s with run := some ⟨j,
        request (whole (unit.drop k)) (target + BitVec.ofNat 32 (8 * k)), .sweepContinuation, false⟩ }) ∧
    (r.phase = .sweepContinuation →
      stops { v with cursor := v.cursor + 24, swept := v.swept + 1 } onward)

/-! ### Ticks -/

/-- TICK: the tick count rises, the division begins again, the timebase's counter runs, the age of every
RETIRING slot rises, and every period counter falls unless counting is held; a counter that falls to 0
expires (R117, R122, R124, R130, R131, R134, R135). What it makes due is carried out by the commands that
follow, or before any other: the aged entries close in opening order (R94, R97), then each service retires
its due slots and acts on its expiry (R119, R123, R124), then the qualification and the end of the holdover
(R134, R135), each as its own command does it; with no tick under way nothing is. The order is the
model's choice (log 2), and so is that TICK makes a tick whatever the division count stands at
(log 32). -/
def Obligations.TickMovesEveryCounter : Prop :=
  (∀ s : State, s.tickOpen = false → settled s = s) ∧
  (∀ s : State, s.tickOpen = true → s.inReset = false →
    ∀ carry : Instr → State → State, carry = (fun c t =>
      match exec c t with
      | .next w => w
      | .fault _ => t
      | .refused _ => t) →
    ∀ closed, closed = closedAsAbandoned .idle
      (s.tracker.filter fun e => decide (s.idleLimit < (s.time.tickCount - e.lastWrite).toNat)) s →
    ∀ served, served = (List.finRange 24).foldl (fun t i =>
      carry (.expiry i) (carry (.retirement i .b) (carry (.retirement i .a) t))) closed →
    settled s =
      { carry .holdoverEnd (carry .referenceQualified served) with tickOpen := false, expiring := [] }) ∧
  ∀ s : State, s.inReset = false → ∀ u, u = settled s →
    ∃ t, exec .tick s = .next t ∧
      t = { u with time := t.time, services := t.services, expiring := t.expiring, tickOpen := true } ∧
      t.time = { u.time with
        tickCount := u.time.tickCount + 1
        division := 0
        qualification :=
          if u.time.state = .acquiring ∧ u.time.refPresent = true then u.time.qualification + 1
          else u.time.qualification
        countdown := if u.time.state = .holdover then u.time.countdown - 1 else u.time.countdown } ∧
      ∀ i : ServiceNo, ∀ v, v = u.services[i] →
        ∀ counts, counts = (u.time.hold = false ∧ (v.state = .running ∨ v.state = .starved)) →
        ∀ older : KeySlot → KeySlot, older = (fun k =>
          { k with age := if k.state = .retiring then min 65535 (k.age + 1) else k.age }) →
        (counts → t.services[i] = { v with
          slotA := older v.slotA, slotB := older v.slotB, counter := v.counter - 1 }) ∧
        (¬ counts → t.services[i] = { v with slotA := older v.slotA, slotB := older v.slotB }) ∧
        (i ∈ t.expiring ↔ counts ∧ v.counter = 1)

/-- IDLE_CLOSE closes the first aged entry as abandoned, reason IDLE (R94, R97); RETIREMENT makes a
RETIRING slot past its guard and without users EMPTY, its word zeroed (R123). A command whose condition
does not hold is no event (log 1). -/
def Obligations.AgedEntriesCloseAndGuardedSlotsRetire : Prop :=
  ∀ s : State, s.inReset = false →
    (∀ before e after, s.tickOpen = true → s.tracker = before ++ e :: after →
      (∀ x ∈ before, (s.time.tickCount - x.lastWrite).toNat ≤ s.idleLimit) →
      s.idleLimit < (s.time.tickCount - e.lastWrite).toNat →
      exec .idleClose s = .next (closeEntry e (offer
        ⟨.abandoned, e.initiator, .write, e.slot, s.time.tickCount.setWidth 16, some e.aperture,
          if e.disposition = .null then none else some e.pid,
          match e.disposition with | .scramble i _ => some i | .clear | .pass | .null => none,
          some .idle, none⟩ s))) ∧
    ((s.tickOpen = false ∨ ∀ x ∈ s.tracker, (s.time.tickCount - x.lastWrite).toNat ≤ s.idleLimit) →
      exec .idleClose s = .next s) ∧
    (∀ (i : ServiceNo) (p : Phase), ∀ v k, v = s.services[i] → k = keySlot v p →
      (k.state = .retiring → v.guard ≤ k.age → k.users = 0 →
        exec (.retirement i p) s =
          .next (putService i (withKeySlot p ⟨.empty, Vector.replicate 16 0, 0, k.age⟩ v) s)) ∧
      (k.state ≠ .retiring ∨ k.age < v.guard ∨ k.users ≠ 0 → exec (.retirement i p) s = .next s) ∧
      exec (.retirement i p) s = .next (retire i p s))

/-- EXPIRY of a service whose counter fell to 0 at the tick, after its due retirements: a flip when the
next slot is READY, else an extension while fewer than E have been made, else WITHHOLDING (R119, R124).
An EXPIRY of another service is no event (log 1). A flip, in any state of the service, makes its ACTIVE
slot RETIRING with age 0 and the next slot ACTIVE, the counter P, the extension count 0 and the state
RUNNING, and is offered to the job engine as a trigger, followed by a selection (R118, R148, R151). -/
def Obligations.ExpiryFlipsExtendsOrWithholds : Prop :=
  ∀ (s : State) (i : ServiceNo), s.inReset = false →
    (i ∉ s.expiring → exec (.expiry i) s = .next s) ∧
    (∀ v, v = s.services[i] →
      (v.slotA.state = .active → flipService i s = select (deliver (.flip i) (putService i
        { v with
          state := .running, counter := v.period, extension := 0
          slotA := { v.slotA with state := .retiring, age := 0 }
          slotB := { v.slotB with state := .active } } s))) ∧
      (v.slotA.state ≠ .active → v.slotB.state = .active →
        flipService i s = select (deliver (.flip i) (putService i
          { v with
            state := .running, counter := v.period, extension := 0
            slotA := { v.slotA with state := .active }
            slotB := { v.slotB with state := .retiring, age := 0 } } s))) ∧
      (v.slotA.state ≠ .active → v.slotB.state ≠ .active → flipService i s = s)) ∧
    (∀ t, retireBoth i t = retire i .b (retire i .a t)) ∧
    (i ∈ s.expiring → ∀ w v, w = retireBoth i { s with expiring := s.expiring.erase i } →
      v = w.services[i] → v.state = .idle ∨ v.state = .withholding →
      exec (.expiry i) s = .next w) ∧
    (i ∈ s.expiring → ∀ w v, w = retireBoth i { s with expiring := s.expiring.erase i } →
      v = w.services[i] → v.state = .running ∨ v.state = .starved →
      (nextState v = some .ready → exec (.expiry i) s = .next (flipService i w)) ∧
      (nextState v ≠ some .ready → v.extension < v.limit →
        exec (.expiry i) s = .next (setCause .starved (putService i
          { v with state := .starved, extension := v.extension + 1, counter := v.period } w))) ∧
      (nextState v ≠ some .ready → v.limit ≤ v.extension →
        exec (.expiry i) s = .next (setCause .withholding (putService i
          { v with state := .withholding, counter := 0 } w))))

/-! ### The inputs -/

/-- The reference state machine: qualification at 64 ticks, the end of the holdover, the reference's
loss and its return (R133 to R136). A command whose condition does not hold is no event (log 1). -/
def Obligations.ReferenceEventsMoveTheState : Prop :=
  ∀ s : State, s.inReset = false → ∀ u, u = settled s →
    (s.time.state = .acquiring → 64 ≤ s.time.qualification →
      exec .referenceQualified s = .next (setCause .locked { s with
        time := { s.time with state := .locked, hold := false, qualification := 0 } })) ∧
    (s.time.state ≠ .acquiring ∨ s.time.qualification < 64 →
      exec .referenceQualified s = .next s) ∧
    (s.time.state = .holdover → s.time.countdown = 0 →
      exec .holdoverEnd s = .next (setCause .frozen { s with
        time := { s.time with state := .frozen, hold := true } })) ∧
    (s.time.state ≠ .holdover ∨ s.time.countdown ≠ 0 → exec .holdoverEnd s = .next s) ∧
    (s.time.refPresent = true → ∀ b, b = { u.time with refPresent := false } →
      (b.state = .locked → exec .referenceLost s = .next (setCause .refLost { u with
        time := { b with state := .holdover, countdown := b.limit } })) ∧
      (b.state = .acquiring →
        exec .referenceLost s = .next { u with time := { b with qualification := 0 } }) ∧
      (b.state = .local ∨ b.state = .holdover ∨ b.state = .frozen →
        exec .referenceLost s = .next { u with time := b })) ∧
    (s.time.refPresent = false → ∀ b, b = { u.time with refPresent := true } →
      (b.state = .holdover ∨ b.state = .frozen →
        exec .referenceReturned s = .next { u with
          time := { b with state := .acquiring, qualification := 0, countdown := 0 } }) ∧
      (b.state = .local ∨ b.state = .acquiring ∨ b.state = .locked →
        exec .referenceReturned s = .next { u with time := b }))

/-- A frame start is the FRAME trigger, followed by a selection; a window opening makes a selection; a
window closing withdraws the request of a window-bound run that is presented and not taken, unless it is
a SWEEP's continuation write, and suspends the run (R140, R141, R148, R151, R160). -/
def Obligations.FrameAndWindowReachTheJobs : Prop :=
  ∀ s : State, s.inReset = false → ∀ u, u = settled s →
    exec .frameStart s = .next (select (deliver .frame u)) ∧
    (s.time.windowOpen = false →
      exec .windowOpening s = .next (select { u with time := { u.time with windowOpen := true } })) ∧
    (s.time.windowOpen = true → ∀ w, w = { u with time := { u.time with windowOpen := false } } →
      (∀ r, w.run = some r → w.jobs[r.slot].config.windowBound = true → r.taken = false →
        r.phase ≠ .sweepContinuation →
        exec .windowClosing s = .next (select { w with
          run := none, jobs := w.jobs.set r.slot { w.jobs[r.slot] with state := .suspended } })) ∧
      ((∀ r, w.run = some r → w.jobs[r.slot].config.windowBound = false ∨ r.taken = true ∨
          r.phase = .sweepContinuation) →
        exec .windowClosing s = .next w))

/-- KEY_PURGE and PURGE_ASSERTION: every SCRAMBLE entry is abandoned, reason PURGE, in opening order;
every key slot is EMPTY, every service not IDLE is WITHHOLDING; PURGED is set, KEY_WANTED when an
indication became set, CAPTURE_READY when the records find the queue empty, CAPTURE_OVERRUN and the
overrun indication when they overfill it, and no other cause (R125, R165, R167, R168, R170).
PURGE_RELEASE changes the level alone (R94, R95, R126, R178, R179). -/
def Obligations.KeyPurgeEmptiesEverySlot : Prop :=
  ∀ s : State, ∀ u, u = settled s → (u.tracker.map (·.slot)).Nodup →
    ∀ purged : State → State → Prop, purged = (fun b t =>
      ByTracker b t ∧
      t.tracker = b.tracker.filter (fun e => !isScramble e.disposition) ∧
      t.capture = b.capture ++ ((b.tracker.filter fun e => isScramble e.disposition).map fun e =>
        (⟨.abandoned, e.initiator, .write, e.slot, b.time.tickCount.setWidth 16, some e.aperture,
          some e.pid, match e.disposition with | .scramble i _ => some i | .clear | .pass | .null => none,
          some .purge, none⟩ : CaptureRecord)).take (48 - b.capture.length) ∧
      (∀ i : ServiceNo, ∀ v, v = b.services[i] →
        t.services[i] = { v with
          state := if v.state = .idle then .idle else .withholding
          extension := if v.state = .idle then v.extension else 0
          slotA := ⟨.empty, Vector.replicate 16 0, 0, 0⟩
          slotB := ⟨.empty, Vector.replicate 16 0, 0, 0⟩ }) ∧
      ∀ records, records = (b.tracker.filter fun e => isScramble e.disposition).length →
      ∀ overfull : Prop, overfull = (0 < records ∧ 48 < b.capture.length + records) →
      (t.overrun = true ↔ b.overrun = true ∨ overfull) ∧
      ∀ arises : Cause → Prop, arises = (fun c =>
          c = .purged ∨ (c = .captureOverrun ∧ overfull) ∨
          (c = .captureReady ∧ b.capture = [] ∧ 0 < records) ∨
          (c = .keyWanted ∧ ∃ i : ServiceNo,
            b.services[i].state ≠ .idle ∧ keyWanted b.services[i] = false)) →
        (∀ c, flagOf t c = true ↔ flagOf b c = true ∨ arises c) ∧
        (∀ g, raisedOf t g = true ↔
          raisedOf b g = true ∨ ∃ c, arises c ∧ causeGroup c = g ∧ enableOf b c = true)) →
    (listening s → ∃ t, answers .keyPurge s .ok [] t ∧ purged u t) ∧
    (s.inReset = false → s.purgeHeld = false →
      ∃ t, exec .purgeAssertion s = .next t ∧ purged { u with purgeHeld := true } t) ∧
    (s.inReset = false → s.purgeHeld = true →
      exec .purgeRelease s = .next { u with purgeHeld := false })

/-! ### The management port -/

/-- READ_PERIOD clocks out 5Ah and the held response, or 00h, and then FFh; a response clocked out whole
is gone, another stays held (R174). BAD_FRAME and BAD_COMMAND are answered with their status and nothing
else changes (R175). A response frame is the status, the length, the data and their CRC; a status has its
code, a choice its position in its list, a trigger two bytes, and a number stands least significant byte
first (R177); the fault status is coded by the model's choice (log 15). The bytes clocked out and the read position between
periods are the model's record (log 19). -/
def Obligations.SelectPeriodsAreAnswered : Prop :=
  (∀ (st : PortStatus) (data : List Byte), ∀ inside, inside = statusByte st :: natByte data.length :: data →
    responseFrame st data = inside ++ [crc8 inside]) ∧
  ([.ok, .badFrame, .badCommand, .badParameter, .conflict, .duplicate, .state, .noKey, .activeSlot,
      .slotBusy, .purgeHeld, .busy, .empty].map statusByte
    = [0x00, 0x01, 0x02, 0x03, 0x04, 0x05, 0x06, 0x07, 0x08, 0x09, 0x0A, 0x0B, 0x0C] ∧
    [.raw, .sample, .packet].map viewByte = [0, 1, 2] ∧
    [.refuse, .divert, .note].map violationByte = [0, 1, 2] ∧
    [.clear, .null].map clearOrNullByte = [0, 1] ∧
    [.forward, .forwardNote, .refuse, .divert].map unmappedByte = [0, 1, 2, 3] ∧
    [.clear, .scramble, .null].map treatmentByte = [0, 1, 2] ∧
    [.idle, .running, .starved, .withholding].map serviceStateByte = [0, 1, 2, 3] ∧
    [.empty, .ready, .active, .retiring].map keyStateByte = [0, 1, 2, 3] ∧
    [.local, .acquiring, .locked, .holdover, .frozen].map timeStateByte = [0, 1, 2, 3, 4] ∧
    [.fill, .convert, .sweep, .digest].map jobKindByte = [0, 1, 2, 3] ∧
    [.disabled, .idle, .pending, .running, .suspended].map jobStateByte = [0, 1, 2, 3, 4] ∧
    [.notRun, .done, .aborted, .faulted].map jobStatusByte = [0, 1, 2, 3] ∧
    [.refused, .fault].map faultStatusByte = [0, 1] ∧
    [.illFormed, .denied, .noted, .unmapped, .malformed, .orphan, .abandoned, .clearReadFailed, .jobFault,
      .memoryFault].map captureKindByte = [0, 1, 2, 3, 4, 5, 6, 7, 8, 9] ∧
    [.idle, .evicted, .reconfigured, .purge].map reasonByte = [0, 1, 2, 3] ∧
    [false, true].map boolByte = [0, 1]) ∧
  (triggerBytes .noTrigger = [0, 0] ∧ triggerBytes .command = [1, 0] ∧ triggerBytes .frame = [2, 0] ∧
    (∀ i : ServiceNo, triggerBytes (.flip i) = [3, BitVec.ofNat 8 i.val]) ∧
    (∀ j : JobNo, triggerBytes (.done j) = [4, BitVec.ofNat 8 j.val])) ∧
  (∀ n : Nat, natByte n = BitVec.ofNat 8 n) ∧
  (∀ (k w : Nat) (x : BitVec w), fieldBytes k x = leBytes k x.toNat) ∧
  (∀ (k n : Nat), (leBytes k n).length = k ∧
    ∀ j < k, (leBytes k n).getD j 0 = BitVec.ofNat 8 (n / 256 ^ j)) ∧
  ∀ s : State, listening s → ∀ u, u = settled s →
    (∀ edges, edges < 8 → exec (.readPeriod edges) s = .next s) ∧
    (∀ n rest, ∀ edges, 8 ≤ edges → n = edges / 8 →
      (u.heldResponse = none → rest = List.replicate (n - 1) 0xFF →
        exec (.readPeriod edges) s = .next { u with readPosition := 0, miso := 0x00 :: rest }) ∧
      (∀ f, u.heldResponse = some f → f.length < n → rest = f ++ List.replicate (n - 1 - f.length) 0xFF →
        exec (.readPeriod edges) s =
          .next { u with heldResponse := none, readPosition := 0, miso := 0x5A :: rest }) ∧
      (∀ f, u.heldResponse = some f → n ≤ f.length → rest = f.take (n - 1) →
        exec (.readPeriod edges) s = .next { u with readPosition := n - 1, miso := 0x5A :: rest })) ∧
    (∀ p : Period, examine p = .badFrame →
      exec (.badFrame p) s = .next { u with
        heldResponse := some [0x01, 0x00, crc8 [0x01, 0x00]]
        readPosition := 0
        miso := (if s.heldResponse = none then 0x00 else 0x5A) :: List.replicate (p.bytes.length - 1) 0xFF }) ∧
    (∀ code ps, code ≠ 0 → ps.length ≤ 45 → paramLength code = none →
      exec (.badCommand code ps) s = .next { u with
        heldResponse := some [0x02, 0x00, crc8 [0x02, 0x00]]
        readPosition := 0
        miso := (if s.heldResponse = none then 0x00 else 0x5A) :: List.replicate (2 + ps.length) 0xFF })

/-! ### Apertures, masks and streams -/

/-- WRITE_PATH sets the unmapped action and the slot idle limit, or is refused BAD_PARAMETER; READ_PATH
and READ_APERTURE return what they name and change nothing but, by the clear option, the saturation
count (R24, R25, R33). The parked requests are those of the pending list that are on a wait list (R9,
R54). -/
def Obligations.PathSettingsAndReads : Prop :=
  ∀ s : State, listening s → ∀ u, u = settled s →
    (∀ action limit : Byte,
      (4 ≤ action.toNat ∨ limit = 0 → answers (.writePath action limit) s .badParameter [] u) ∧
      (limit ≠ 0 → ∀ a : UnmappedAction, action = unmappedByte a →
        answers (.writePath action limit) s .ok [] { u with unmapped := a, idleLimit := limit.toNat })) ∧
    (∀ parkedOnes, parkedOnes = (u.pendingList.filter fun e =>
        u.mergeTable.any fun m => m.waits.any fun x => decide (x.id = e.id)) →
      answers .readPath s .ok
        [unmappedByte u.unmapped, natByte u.idleLimit, natByte u.pendingList.length,
          natByte parkedOnes.length, natByte u.tracker.length, natByte u.mergeTable.length] u) ∧
    (∀ entry clear : Byte,
      (12 ≤ entry.toNat ∨ 2 ≤ clear.toNat → answers (.readAperture entry clear) s .badParameter [] u) ∧
      (∀ i : ApertureNo, entry = natByte i.val → ∀ a data, a = u.apertures[i] →
        data = [boolByte a.valid] ++ leBytes 3 a.base ++ leBytes 3 a.limit ++ [viewByte a.view]
          ++ fieldBytes 2 a.writeSet ++ fieldBytes 2 a.readSet ++ [violationByte a.violation]
          ++ fieldBytes 4 a.backing ++ [natByte a.width, natByte a.depth] ++ leBytes 2 a.saturation
          ++ fieldBytes 2 a.clearRead ++ [clearOrNullByte a.unlisted] →
        (clear = 0 → answers (.readAperture entry clear) s .ok data u) ∧
        (clear = 1 → answers (.readAperture entry clear) s .ok data
          { u with apertures := u.apertures.set i { a with saturation := 0 } })))

/-- R27: WRITE_MASK sets the mask of its initiator, READ_MASK returns it, both refuse a number greater
than 15, and a write classified into a sample view takes the mask as it stands. -/
def Obligations.MasksAreWrittenAndRead : Prop :=
  ∀ s : State,
    (listening s → ∀ u, u = settled s → ∀ (initiator : Byte) (mask : BitVec 16),
      (15 < initiator.toNat →
        answers (.writeMask initiator mask) s .badParameter [] u ∧
        answers (.readMask initiator) s .badParameter [] u) ∧
      (∀ i : Initiator, initiator.toNat = i.val →
        answers (.writeMask initiator mask) s .ok [] { u with masks := u.masks.set i mask } ∧
        answers (.readMask initiator) s .ok (fieldBytes 2 u.masks[i]) u)) ∧
    (∀ (i : ApertureNo) (initiator : Initiator), s.apertures[i].view = .sample →
      (copyOf s i initiator).view =
        .sample s.apertures[i].backing s.apertures[i].width s.apertures[i].depth s.masks[initiator])

/-- WRITE_APERTURE: the parameter checks, then CONFLICT, then BUSY, each changing nothing; an accepted
one gives the entry its contents, those of another view zero and the saturation count 0, and abandons
the tracker entries of the aperture in opening order, each giving its record and then closing, so that
its key slot loses a user and may retire (R28 to R33, R88, R94, R123). The size of a region whose limit
does not exceed its base is the model's choice (log 16), and so is that a limit of 0 is accepted with
valid 0 (log 35). -/
def Obligations.WriteApertureChecksAndStores : Prop :=
  ∀ (p : ApertureParams) (s : State), listening s → ∀ u, u = settled s →
    ∀ (bad : Prop), bad = (11 < p.entry.toNat ∨ 1 < p.valid.toNat ∨ 2 < p.view.toNat ∨
        2 < p.violation.toNat ∨ (p.view.toNat = 2 ∧ 1 < p.unlisted.toNat) ∨
        0xFFFFF < p.base.toNat ∨ 0x100000 < p.limit.toNat ∨
        (p.valid.toNat = 1 ∧ p.limit.toNat ≤ p.base.toNat) ∨
        (p.view.toNat = 1 ∧
          ((p.width.toNat ≠ 8 ∧ p.width.toNat ≠ 10 ∧ p.width.toNat ≠ 12 ∧ p.width.toNat ≠ 16) ∨
           (p.depth.toNat ≠ 8 ∧ p.depth.toNat ≠ 10 ∧ p.depth.toNat ≠ 12) ∨
           p.backing.toNat % 8 ≠ 0 ∨
           2 ^ 32 < p.backing.toNat + (p.limit.toNat - p.base.toNat) * 256 * p.depth.toNat))) →
    (bad → answers (.writeAperture p) s .badParameter [] u) ∧
    (¬ bad → ∃ (i : ApertureNo) (a : Aperture),
      i.val = p.entry.toNat ∧ (a.valid = true ↔ p.valid = 1) ∧ a.base = p.base.toNat ∧
      a.limit = p.limit.toNat ∧ viewByte a.view = p.view ∧ a.writeSet = p.writeSet ∧
      a.readSet = p.readSet ∧ violationByte a.violation = p.violation ∧ a.saturation = 0 ∧
      (a.view = .sample →
        a.backing = p.backing ∧ a.width = p.width.toNat ∧ a.depth = p.depth.toNat) ∧
      (a.view ≠ .sample → a.backing = 0 ∧ a.width = 0 ∧ a.depth = 0) ∧
      (a.view = .packet → a.clearRead = p.clearRead ∧ clearOrNullByte a.unlisted = p.unlisted) ∧
      (a.view ≠ .packet → a.clearRead = 0 ∧ a.unlisted = .clear) ∧
      ∀ conflict busy : Prop,
        conflict = (a.valid = true ∧
          ((∃ j : ApertureNo, j ≠ i ∧ u.apertures[j].valid = true ∧ ∃ x,
              a.base ≤ x ∧ x < a.limit ∧ u.apertures[j].base ≤ x ∧ x < u.apertures[j].limit) ∨
           (a.view = .sample ∧ ((∃ x, a.backing.toNat ≤ x ∧
              x < a.backing.toNat + (a.limit - a.base) * 256 * a.depth ∧
              a.base * 4096 ≤ x ∧ x < a.limit * 4096) ∨ a.width < a.depth)) ∨
           (a.view = .packet ∧ (a.limit - a.base) % 3 ≠ 0))) →
        busy = (∃ m ∈ u.mergeTable, m.aperture = i) →
        (conflict → answers (.writeAperture p) s .conflict [] u) ∧
        (¬ conflict → busy → answers (.writeAperture p) s .busy [] u) ∧
        (¬ conflict → ¬ busy → ∃ t, answers (.writeAperture p) s .ok [] t ∧
          t = { closedAsAbandoned .reconfigured
              (u.tracker.filter fun e => decide (e.aperture = i)) u with
            apertures := u.apertures.set i a } ∧
          ByTracker { u with apertures := u.apertures.set i a } t ∧
          ((u.tracker.map (·.slot)).Nodup →
            t.tracker = u.tracker.filter (fun e => decide (e.aperture ≠ i)) ∧
            t.capture = u.capture ++ ((u.tracker.filter fun e => decide (e.aperture = i)).map fun e =>
              (⟨.abandoned, e.initiator, .write, e.slot, u.time.tickCount.setWidth 16, some i,
                if e.disposition = .null then none else some e.pid,
                match e.disposition with | .scramble k _ => some k | .clear | .pass | .null => none,
                some .reconfigured, none⟩ : CaptureRecord)).take (48 - u.capture.length))))

/-- WRITE_STREAM: the parameter checks, then DUPLICATE, each changing nothing; an accepted one gives the
entry its contents; READ_STREAM returns an entry and changes nothing (R79 to R82). That absent fields
are coded as zero, and refused otherwise, is the model's choice (log 14). -/
def Obligations.WriteAndReadStream : Prop :=
  ∀ s : State, listening s → ∀ u, u = settled s →
    (∀ p : StreamParams,
      ∀ badPid : BitVec 16 → Prop,
        badPid = (fun v => 0x1FFF < v.toNat ∨ v.toNat ≤ 0x1F ∨ v.toNat = 0x1FFF) →
      ∀ bad : Prop, bad = (47 < p.entry.toNat ∨ 1 < p.valid.toNat ∨ 2 < p.treatment.toNat ∨
          badPid p.input ∨ 1 < p.outputPresent.toNat ∨ (p.outputPresent = 1 ∧ badPid p.output) ∨
          (p.outputPresent = 0 ∧ p.output ≠ 0) ∨ 1 < p.servPresent.toNat ∨
          (p.treatment = 1 ∧ p.servPresent = 0) ∨ (p.servPresent = 1 ∧ p.treatment ≠ 1) ∨
          (p.servPresent = 1 ∧ 23 < p.service.toNat) ∨ (p.servPresent = 0 ∧ p.service ≠ 0)) →
      (bad → answers (.writeStream p) s .badParameter [] u) ∧
      (¬ bad → ∃ (i : StreamNo) (e : StreamEntry),
        i.val = p.entry.toNat ∧ (e.valid = true ↔ p.valid = 1) ∧ e.input.toNat = p.input.toNat ∧
        e.output.map (·.toNat) = (if p.outputPresent = 1 then some p.output.toNat else none) ∧
        e.service.map (·.val) = (if p.servPresent = 1 then some p.service.toNat else none) ∧
        treatmentByte e.treatment = p.treatment ∧
        ∀ duplicate : Prop, duplicate = (e.valid = true ∧ ∃ j : StreamNo, j ≠ i ∧
            u.streams[j].valid = true ∧ (u.streams[j].input = e.input ∨
              u.streams[j].output.getD u.streams[j].input = e.output.getD e.input)) →
          (duplicate → answers (.writeStream p) s .duplicate [] u) ∧
          (¬ duplicate → answers (.writeStream p) s .ok [] { u with streams := u.streams.set i e }))) ∧
    (∀ entry : Byte,
      (47 < entry.toNat → answers (.readStream entry) s .badParameter [] u) ∧
      (∀ i : StreamNo, entry.toNat = i.val → ∀ e, e = u.streams[i] →
        answers (.readStream entry) s .ok
          ([boolByte e.valid] ++ fieldBytes 2 e.input
            ++ (match e.output with | some o => 1 :: fieldBytes 2 o | none => [0, 0, 0])
            ++ (match e.service with | some v => [1, natByte v.val] | none => [0, 0])
            ++ [treatmentByte e.treatment]) u))

/-! ### Services -/

/-- WRITE_SERVICE sets P, G, E and the unkeyed policy of a service, and makes the retirements that this
makes due, or is refused BAD_PARAMETER, changing nothing (R110, R123). -/
def Obligations.WriteServiceSetsTheFourValues : Prop :=
  ∀ (p : ServiceParams) (s : State), listening s → ∀ u, u = settled s →
    (23 < p.service.toNat ∨ p.period.toNat < 10 ∨ p.guard.toNat < 1 ∨ 65534 < p.guard.toNat ∨
      15 < p.limit.toNat ∨ 1 < p.policy.toNat ∨ p.period.toNat ≤ p.guard.toNat →
      answers (.writeService p) s .badParameter [] u) ∧
    (∀ (i : ServiceNo) (policy : ClearOrNull), p.service.toNat = i.val →
      10 ≤ p.period.toNat → 1 ≤ p.guard.toNat → p.limit.toNat ≤ 15 →
      p.policy = clearOrNullByte policy → p.guard.toNat < p.period.toNat →
      ∀ v, v = { u.services[i] with
        period := p.period.toNat, guard := p.guard.toNat, limit := p.limit.toNat, policy := policy } →
      answers (.writeService p) s .ok []
        (retire i .b (retire i .a { u with services := u.services.set i v })))

/-- R111: READ_SERVICE returns the whole context of a service and changes nothing. -/
def Obligations.ReadServiceReturnsTheContext : Prop :=
  ∀ (service : Byte) (s : State), listening s → ∀ u, u = settled s →
    (23 < service.toNat → answers (.readService service) s .badParameter [] u) ∧
    (∀ i : ServiceNo, service.toNat = i.val → ∀ v, v = u.services[i] →
      answers (.readService service) s .ok
        ([serviceStateByte v.state] ++ leBytes 2 v.period ++ leBytes 2 v.guard
          ++ [natByte v.limit, clearOrNullByte v.policy] ++ leBytes 2 v.counter ++ [natByte v.extension]
          ++ [boolByte (keyWanted v)] ++ fieldBytes 4 v.scrambled ++ fieldBytes 4 v.nulled
          ++ [keyStateByte v.slotA.state, natByte v.slotA.users] ++ leBytes 2 v.slotA.age
          ++ [keyStateByte v.slotB.state, natByte v.slotB.users] ++ leBytes 2 v.slotB.age) u)

/-- LOAD_KEY: its checks in order; an EMPTY or READY slot becomes READY with the new word, and then a
STARVED service, or a WITHHOLDING one with an ACTIVE slot, flips, and a WITHHOLDING one without resumes
(R112 to R114, R127). -/
def Obligations.LoadKeyLoadsFlipsOrResumes : Prop :=
  ∀ (service phase : Byte) (word : ControlWord) (s : State), listening s → ∀ u, u = settled s →
    (23 < service.toNat ∨ 1 < phase.toNat →
      answers (.loadKey service phase word) s .badParameter [] u) ∧
    (∀ (i : ServiceNo) (p : Phase), service.toNat = i.val → phaseOf phase = some p →
      ∀ v k, v = u.services[i] → k = keySlot v p →
      (u.purgeHeld = true → answers (.loadKey service phase word) s .purgeHeld [] u) ∧
      (u.purgeHeld = false →
        (k.state = .active → answers (.loadKey service phase word) s .activeSlot [] u) ∧
        (k.state = .retiring → answers (.loadKey service phase word) s .slotBusy [] u) ∧
        (k.state = .empty ∨ k.state = .ready →
          ∀ w, w = { u with
            services := u.services.set i (withKeySlot p { k with state := .ready, key := word } v) } →
          (v.state = .idle ∨ v.state = .running →
            answers (.loadKey service phase word) s .ok [] w) ∧
          (v.state = .starved ∨ v.state = .withholding → activePhase v ≠ none →
            answers (.loadKey service phase word) s .ok [] (flipService i w)) ∧
          (v.state = .withholding → activePhase v = none →
            answers (.loadKey service phase word) s .ok [] { u with
              services := u.services.set i (withKeySlot p { k with state := .active, key := word }
                { v with state := .running, counter := v.period }) }))))

/-- START, STOP and FLIP: their checks in order, and their effects on the slots, the state, the counter
and the extension count; a flip is offered to the job engine as a trigger, a START or STOP is not (R115,
R116, R118, R120). -/
def Obligations.StartStopAndFlip : Prop :=
  ∀ (service phase : Byte) (s : State), listening s → ∀ u, u = settled s →
    (23 < service.toNat → answers (.stop service) s .badParameter [] u ∧
      answers (.flip service) s .badParameter [] u) ∧
    (23 < service.toNat ∨ 1 < phase.toNat → answers (.start service phase) s .badParameter [] u) ∧
    (∀ i : ServiceNo, service.toNat = i.val → ∀ v, v = u.services[i] →
      (∀ p, phaseOf phase = some p →
        (v.state ≠ .idle → answers (.start service phase) s .state [] u) ∧
        (v.state = .idle → (keySlot v p).state ≠ .ready →
          answers (.start service phase) s .noKey [] u) ∧
        (v.state = .idle → (keySlot v p).state = .ready →
          answers (.start service phase) s .ok [] (putService i
            (withKeySlot p { keySlot v p with state := .active }
              { v with state := .running, counter := v.period, extension := 0 }) u))) ∧
      (v.state = .idle → answers (.stop service) s .state [] u ∧ answers (.flip service) s .state [] u) ∧
      (v.state ≠ .idle →
        ∀ rest : KeySlot → KeySlot, rest = (fun k =>
          if k.state = .active then { k with state := .retiring, age := 0 } else k) →
        ∀ x, x = { v with
          state := .idle, extension := 0, slotA := rest v.slotA, slotB := rest v.slotB } →
        answers (.stop service) s .ok [] { u with services := u.services.set i x }) ∧
      (v.state = .starved ∨ v.state = .withholding ∨ (v.state = .running ∧ nextState v ≠ some .ready) →
        answers (.flip service) s .noKey [] u) ∧
      (∀ p, v.state = .running → activePhase v = some p → nextState v = some .ready →
        ∀ x, x = withKeySlot (otherPhase p) { keySlot v (otherPhase p) with state := .active }
          (withKeySlot p { keySlot v p with state := .retiring, age := 0 }
            { v with state := .running, counter := v.period, extension := 0 }) →
        answers (.flip service) s .ok []
          (select (deliver (.flip i) { u with services := u.services.set i x }))))

/-! ### The timebase -/

/-- WRITE_TIMEBASE stores the prescale, the divider and H, begins the division again and acts on the
source select, or is refused BAD_PARAMETER; ACCEPT_LOCAL makes HOLDOVER and FROZEN LOCAL, and is refused
STATE in the other states (R133, R137, R138). -/
def Obligations.WriteTimebaseAndAcceptLocal : Prop :=
  ∀ s : State, listening s → ∀ u, u = settled s →
    (∀ p : TimebaseParams,
      ∀ bad : Prop, bad = (1 < p.select.toNat ∨ p.prescale.toNat ∉ [1, 2, 4, 8, 16, 32, 64, 128] ∨
        p.divider = 0 ∨ p.limit = 0) →
      ∀ b, b = { u.time with
        prescale := p.prescale.toNat, divider := p.divider.toNat, limit := p.limit.toNat, division := 0 } →
      (bad → answers (.writeTimebase p) s .badParameter [] u) ∧
      (¬ bad → p.select = 0 → u.time.state ≠ .local →
        answers (.writeTimebase p) s .ok []
          { u with time := { b with state := .local, hold := false, qualification := 0, countdown := 0 } }) ∧
      (¬ bad → p.select = 1 → u.time.state = .local →
        answers (.writeTimebase p) s .ok []
          { u with time := { b with state := .acquiring, qualification := 0, countdown := 0 } }) ∧
      (¬ bad → (p.select = 0 ↔ u.time.state = .local) →
        answers (.writeTimebase p) s .ok [] { u with time := b })) ∧
    (u.time.state = .holdover ∨ u.time.state = .frozen →
      answers .acceptLocal s .ok [] { u with
        time := { u.time with state := .local, hold := false, qualification := 0, countdown := 0 } }) ∧
    (u.time.state = .local ∨ u.time.state = .acquiring ∨ u.time.state = .locked →
      answers .acceptLocal s .state [] u)

/-- READ_TIMEBASE returns the timebase as it stands and changes nothing (R139); that an open window is
coded 1 is the model's choice (log 15). -/
def Obligations.ReadTimebaseReturnsTheTimebase : Prop :=
  ∀ s : State, listening s → ∀ u, u = settled s → ∀ b, b = u.time →
    answers .readTimebase s .ok
      ([timeStateByte b.state, if b.state = .local then 0 else 1, natByte b.prescale]
        ++ leBytes 2 b.divider ++ leBytes 2 b.limit ++ fieldBytes 4 b.tickCount
        ++ [natByte b.qualification] ++ leBytes 2 b.countdown
        ++ [boolByte b.hold, boolByte b.refPresent, boolByte b.windowOpen]) u

/-! ### Jobs -/

/-- WRITE_JOB: the parameter checks, then BUSY, each changing nothing; an accepted one stores the fields
and B and acts on the enable by the slot's state (R145, R146). That BUSY compares the fields as stored,
and that a selection (R151) follows the withdrawal of a request, is the model's reading (log 22). The
second trigger byte, zero where the trigger has none, is the model's coding (log 14). -/
def Obligations.WriteJobStoresAndEnables : Prop :=
  ∀ (p : JobParams) (s : State), listening s → ∀ u, u = settled s →
    ∀ n, n = p.length.toNat →
    ∀ baseBad : Addr → Prop, baseBad = (fun a => a.toNat % 8 ≠ 0 ∨ 2 ^ 32 < a.toNat + 8 * n) →
    ∀ bad : Prop, bad = (5 < p.slot.toNat ∨ 6 < p.boundary.toNat ∨ 1 < p.enable.toNat ∨
        1 < p.windowBound.toNat ∨ 3 < p.kind.toNat ∨ 4 < p.trigger.toNat ∨
        (p.trigger.toNat < 3 ∧ p.triggerOf ≠ 0) ∨ (p.trigger.toNat = 3 ∧ 23 < p.triggerOf.toNat) ∨
        (p.trigger.toNat = 4 ∧ 5 < p.triggerOf.toNat) ∨ n = 0 ∨
        ((p.kind.toNat = 1 ∨ p.kind.toNat = 3) ∧ baseBad p.source) ∨
        (p.kind.toNat < 3 ∧ baseBad p.target) ∨
        (p.kind.toNat = 2 ∧ (p.target.toNat % 64 ≠ 0 ∨ n % 24 ≠ 0))) →
    (bad → answers (.writeJob p) s .badParameter [] u) ∧
    (¬ bad → ∃ (j : JobNo) (c : JobConfig),
      j.val = p.slot.toNat ∧ (c.enable = true ↔ p.enable = 1) ∧ jobKindByte c.kind = p.kind ∧
      c.source = (if c.kind = .convert ∨ c.kind = .digest then p.source else 0) ∧
      c.target = (if c.kind = .digest then 0 else p.target) ∧ c.length = n ∧
      c.pattern = (if c.kind = .fill then p.pattern else 0) ∧
      triggerBytes c.trigger = [p.trigger, p.triggerOf] ∧ (c.windowBound = true ↔ p.windowBound = 1) ∧
      ∀ v busy, v = u.jobs[j] →
        busy = (holdsRun v.state = true ∧ { c with enable := v.config.enable } ≠ v.config) →
      ∀ put : JobSlot → State, put = (fun x =>
        { u with boundary := p.boundary.toNat, jobs := u.jobs.set j x }) →
      ∀ x, x = { v with config := c } →
      (busy → answers (.writeJob p) s .busy [] u) ∧
      (¬ busy → (c.enable = true ∧ v.state ≠ .disabled ∨ c.enable = false ∧ v.state = .disabled) →
        answers (.writeJob p) s .ok [] (put x)) ∧
      (¬ busy → c.enable = true → v.state = .disabled →
        answers (.writeJob p) s .ok [] (put { x with state := .idle })) ∧
      (¬ busy → c.enable = false → v.state = .idle ∨ v.state = .pending →
        answers (.writeJob p) s .ok [] (put { x with state := .disabled })) ∧
      (∀ ended, ended = { x with
          state := .disabled
          result := ⟨.aborted, v.cursor, if c.kind = .sweep then v.swept else 0, 0, none⟩ } →
        (¬ busy → c.enable = false → v.state = .suspended →
          answers (.writeJob p) s .ok [] (setCause .jobAborted (put ended))) ∧
        (¬ busy → c.enable = false → v.state = .running →
          (∀ r, u.run = some r → r.taken = false → r.phase ≠ .sweepContinuation →
            answers (.writeJob p) s .ok []
              (select (setCause .jobAborted { put ended with run := none }))) ∧
          ((∀ r, u.run = some r → r.taken = true ∨ r.phase = .sweepContinuation) →
            answers (.writeJob p) s .ok [] (put x)))))

/-- READ_JOB returns every field of a slot with B, the remembered slot and whether the
engine is free, and clears the overflow flag by its option; TRIGGER_JOB delivers a command trigger to the
slot named or, with ALL, to every slot whose trigger is COMMAND; a selection follows (R147, R150, R151).
The coding of the fault status, REFUSED 0 and FAULT 1, is the model's choice (log 15). -/
def Obligations.ReadJobAndTriggerJob : Prop :=
  ∀ s : State, listening s → ∀ u, u = settled s →
    (∀ slot clear : Byte,
      (5 < slot.toNat ∨ 1 < clear.toNat → answers (.readJob slot clear) s .badParameter [] u) ∧
      (∀ j : JobNo, slot.toNat = j.val → ∀ v c r data, v = u.jobs[j] → c = v.config → r = v.result →
        data = [boolByte c.enable, jobKindByte c.kind] ++ fieldBytes 4 c.source ++ fieldBytes 4 c.target
          ++ leBytes 3 c.length ++ fieldBytes 8 c.pattern ++ triggerBytes c.trigger
          ++ [boolByte c.windowBound, jobStateByte v.state] ++ leBytes 3 v.cursor
          ++ fieldBytes 4 (if c.kind = .digest then v.digest else 0)
          ++ leBytes 3 (if c.kind = .sweep then v.swept else 0)
          ++ [boolByte v.overflow, jobStatusByte r.status] ++ leBytes 3 r.words ++ leBytes 3 r.swept
          ++ fieldBytes 4 r.digest
          ++ (match r.fault with
            | some (st, a) => faultStatusByte st :: fieldBytes 4 a
            | none => [0, 0, 0, 0, 0])
          ++ [natByte u.boundary, natByte u.remembered.val, boolByte (engineFree u)] →
        (clear = 0 → answers (.readJob slot clear) s .ok data u) ∧
        (clear = 1 → answers (.readJob slot clear) s .ok data
          { u with jobs := u.jobs.set j { v with overflow := false } }))) ∧
    (engineFree u = true ↔ ∀ j : JobNo, u.jobs[j].state ≠ .running) ∧
    (∀ slot : Byte,
      (∀ j : JobNo, slot.toNat = j.val →
        answers (.triggerJob slot) s .ok [] (select (triggerSlot j u))) ∧
      (slot.toNat = 255 → answers (.triggerJob slot) s .ok [] (select (deliver .command u))) ∧
      (5 < slot.toNat → slot.toNat ≠ 255 → answers (.triggerJob slot) s .badParameter [] u))

/-! ### Reports -/

/-- READ_CAPTURE removes the record at the head and returns it with the number left and the overrun
indication, or answers EMPTY; CLEAR_OVERRUN clears the indication alone (R166, R167). -/
def Obligations.ReadCaptureAndClearOverrun : Prop :=
  ∀ s : State, listening s → ∀ u, u = settled s →
    (u.capture = [] → answers .readCapture s .empty [0, boolByte u.overrun] u) ∧
    (∀ r rest, u.capture = r :: rest →
      answers .readCapture s .ok
        ([captureKindByte r.kind, natByte (r.initiator.val + if r.request = .write then 16 else 0)]
          ++ fieldBytes 4 r.address ++ fieldBytes 2 r.stamp
          ++ [natByte ((if r.aperture.isSome then 1 else 0) + (if r.pid.isSome then 2 else 0)
                + (if r.service.isSome then 4 else 0)),
              match r.aperture with | some n => natByte n.val | none => 0]
          ++ (match r.pid with | some x => fieldBytes 2 x | none => [0, 0])
          ++ [match r.service with | some n => natByte n.val | none => 0,
              match r.reason with | some x => reasonByte x | none => 0,
              match r.jobSlot with | some n => natByte n.val | none => 0, 0,
              natByte rest.length, boolByte u.overrun])
        { u with capture := rest }) ∧
    answers .clearOverrun s .ok [] { u with overrun := false }

/-- READ_EVENTS returns every flag, enable and raised group and changes nothing; CLEAR_EVENTS clears the
flags it names and lowers no group; WRITE_EVENT_ENABLES sets the enables of its group and no other, and
raises the group if that makes it due; ACK_GROUP lowers its group and raises it again if it is due (R168
to R172). The groups and their causes stand in the order of R168's list; a set of causes is a byte for
each group, with a bit for each cause, and a set of groups a byte with a bit for each (R168, R177). -/
def Obligations.EventCommands : Prop :=
  (groupCauses .path = [.captureReady, .captureOverrun, .memoryFault, .saturation, .pathResetDone] ∧
    groupCauses .keys = [.keyWanted, .starved, .withholding, .purged] ∧
    groupCauses .jobs = [.jobDone, .jobFault, .jobAborted, .triggerOverflow] ∧
    groupCauses .timebase = [.locked, .refLost, .frozen] ∧
    (∀ c g, causeGroup c = g ↔ c ∈ groupCauses g) ∧
    [0, 1, 2, 3].map groupOf = [some .path, some .keys, some .jobs, some .timebase] ∧
    (∀ b : Byte, groupOf b = none ↔ 3 < b.toNat)) ∧
  (∀ f : Cause → Bool, (causeBytes f).length = 4 ∧
    ∀ (b : Byte) (g : Group) (k : Nat), groupOf b = some g → k < 8 →
      ((causeBytes f).getD b.toNat 0).getLsbD k =
        match (groupCauses g)[k]? with
        | some c => f c
        | none => false) ∧
  (∀ s : State, (raisedByte s).toNat < 16 ∧
    ∀ (b : Byte) (g : Group), groupOf b = some g → (raisedByte s).getLsbD b.toNat = raisedOf s g) ∧
  ∀ s : State, listening s → ∀ u, u = settled s →
    ∀ named : Cause → Byte → Prop,
      named = (fun c set => ∃ k, (groupCauses (causeGroup c))[k]? = some c ∧ set.getLsbD k = true) →
    (answers .readEvents s .ok
      (causeBytes (flagOf u) ++ causeBytes (enableOf u) ++
        [raisedByte u, boolByte (raisedOf u .path || raisedOf u .keys || raisedOf u .jobs ||
          raisedOf u .timebase)]) u) ∧
    (∀ path keys jobs timebase : Byte,
      (32 ≤ path.toNat ∨ 16 ≤ keys.toNat ∨ 16 ≤ jobs.toNat ∨ 8 ≤ timebase.toNat →
        answers (.clearEvents path keys jobs timebase) s .badParameter [] u) ∧
      (path.toNat < 32 → keys.toNat < 16 → jobs.toNat < 16 → timebase.toNat < 8 →
        ∃ t, answers (.clearEvents path keys jobs timebase) s .ok [] t ∧ t = { u with flags := t.flags } ∧
          ∀ c, ∀ hit : Prop, hit = named c (match causeGroup c with
              | .path => path | .keys => keys | .jobs => jobs | .timebase => timebase) →
            (hit → flagOf t c = false) ∧ (¬ hit → flagOf t c = flagOf u c))) ∧
    (∀ group set : Byte,
      (3 < group.toNat → answers (.writeEventEnables group set) s .badParameter [] u ∧
        answers (.ackGroup group) s .badParameter [] u) ∧
      (∀ g, groupOf group = some g →
        (2 ^ (groupCauses g).length ≤ set.toNat →
          answers (.writeEventEnables group set) s .badParameter [] u) ∧
        (set.toNat < 2 ^ (groupCauses g).length →
          ∃ t, answers (.writeEventEnables group set) s .ok [] t ∧
            t = { u with enables := t.enables, raised := t.raised } ∧
            (∀ c, causeGroup c ≠ g → enableOf t c = enableOf u c) ∧
            (∀ c, causeGroup c = g → (enableOf t c = true ↔ named c set)) ∧
            (∀ h, raisedOf t h = (raisedOf u h || (decide (h = g) && groupDue t g)))) ∧
        (∃ t, answers (.ackGroup group) s .ok [] t ∧ t = { u with raised := t.raised } ∧
          ∀ h, raisedOf t h = if h = g then groupDue u g else raisedOf u h)))

/-! ### The path reset -/

/-- PATH_RESET answers every taken request RESET, in the order of taking, drops the accesses not issued
and marks the others for absorption, empties the merge table and the tracker, frees the key slots of
their users with the retirements that follow, ends the run ABORTED, returns PENDING and SUSPENDED slots
to IDLE and sets PATH_RESET_DONE, JOB_ABORTED if a run ended and KEY_WANTED if a retirement made a service
want a key; nothing else changes (R15, R16, R64, R96, R125, R129, R161, R170, R178). That the responses
leave within the command is the model's choice (log 23). -/
def Obligations.PathResetAnswersAndEmpties : Prop :=
  ∀ s : State, listening s → ∀ u, u = settled s →
    ∃ t, answers .pathReset s .ok [] t ∧
      t = { u with
        delivered := t.delivered, pendingList := [], waiting := [], mergeTable := [], tracker := []
        outstanding := u.outstanding.map fun a => { a with handler := .absorbed }
        services := t.services, jobs := t.jobs, run := none, flags := t.flags, raised := t.raised } ∧
      (∀ k : Initiator, t.delivered[k] = u.delivered[k] ++
        ((u.pendingList.filter fun e =>
            decide (e.source = .upstream) && decide (e.request.initiator = k)).map fun e =>
          (⟨e.request.initiator, e.request.tag, .reset,
            match e.disposal, e.request.op with
            | .illFormed, _ => []
            | _, .write _ => []
            | _, .read n => List.replicate n 0⟩ : Response))) ∧
      (∀ i : ServiceNo, ∀ v, v = u.services[i] →
        ∀ freed : KeySlot → KeySlot, freed = (fun k =>
          if k.state = .retiring ∧ v.guard ≤ k.age then ⟨.empty, Vector.replicate 16 0, 0, k.age⟩
          else { k with users := 0 }) →
        t.services[i] = { v with slotA := freed v.slotA, slotB := freed v.slotB }) ∧
      (∀ j : JobNo, ∀ v, v = u.jobs[j] →
        ((∃ r, u.run = some r ∧ r.slot = j) → t.jobs[j] = { v with
          state := if v.config.enable then .idle else .disabled
          result := ⟨.aborted, v.cursor, if v.config.kind = .sweep then v.swept else 0, 0, none⟩ }) ∧
        ((∀ r, u.run = some r → r.slot ≠ j) → v.state = .pending ∨ v.state = .suspended →
          t.jobs[j] = { v with state := .idle }) ∧
        ((∀ r, u.run = some r → r.slot ≠ j) → v.state ≠ .pending → v.state ≠ .suspended →
          t.jobs[j] = v)) ∧
      (∀ arises : Cause → Prop, arises = (fun c =>
          c = .pathResetDone ∨ (c = .jobAborted ∧ u.run ≠ none) ∨
          (c = .keyWanted ∧ ∃ i : ServiceNo,
            keyWanted u.services[i] = false ∧ keyWanted t.services[i] = true)) →
        (∀ c, flagOf t c = true ↔ flagOf u c = true ∨ arises c) ∧
        (∀ g, raisedOf t g = true ↔
          raisedOf u g = true ∨ ∃ c, arises c ∧ causeGroup c = g ∧ enableOf u c = true))

/-! ### Laws that every step keeps -/

/-- The pending list, the tracker and the capture queue stay within their limits (R5, R85, R165); so does
the merge table, six entries on blocks of their own, since a partial write that waits behind its
request's first segment keeps its claim (R4, R51, R59, R60). -/
def Obligations.StepKeepsTheLimits : Prop :=
  (∀ s t : State, WithinLimits s → step s = .next t → WithinLimits t) ∧
  (∀ s t : State, MergeLaw s → step s = .next t → MergeLaw t)

/-- A group that has an enabled cause whose flag is set stays raised (R170). -/
def Obligations.StepKeepsDueGroupsRaised : Prop :=
  ∀ s t : State, GroupsRaised s → step s = .next t → GroupsRaised t

/-- No two entries serve one slot, every user count is the number of SCRAMBLE entries that use the slot,
and a slot with users is ACTIVE or RETIRING (R85, R88). -/
def Obligations.StepKeepsUsersCounted : Prop :=
  ∀ s t : State, UsersCounted s → step s = .next t → UsersCounted t

/-- The ACTIVE slots agree with the service states, and every guard is less than its period (R109,
R110); the counting hold agrees with the reference state (R136). -/
def Obligations.StepKeepsServiceAndHoldLaws : Prop :=
  ∀ s t : State, ActiveLaw s ∧ GuardLaw s ∧ HoldLaw s → step s = .next t →
    ActiveLaw t ∧ GuardLaw t ∧ HoldLaw t

/-- A slot is RUNNING exactly while the engine holds its run (R144). -/
def Obligations.StepKeepsOneRunning : Prop :=
  ∀ s t : State, OneRunning s → step s = .next t → OneRunning t

/-- No two valid apertures share a granule, and no two valid streams share a PID (R29, R81). -/
def Obligations.StepKeepsTablesApart : Prop :=
  ∀ s t : State, AperturesApart s → StreamsApart s → step s = .next t →
    AperturesApart t ∧ StreamsApart t

/-- While the reset input is asserted, every block stays in its power-on state (R180). -/
def Obligations.StepKeepsReset : Prop :=
  ∀ s t : State, ResetHolds s → step s = .next t → ResetHolds t

/-! ### The coding of frames -/

/-- R176: the CRC register starts at 00h, takes each byte by exclusive-or and eight shifts, and is not
complemented; the manual's check value; and a frame with its own CRC passes the framing checks. -/
def Obligations.CrcOfFrames : Prop :=
  ∀ shift : Byte → Byte, shift = (fun c =>
      if c.msb then (c <<< 1) ^^^ 0x07#8 else c <<< 1) →
    crc8 [] = 0x00 ∧
    (∀ (bytes : List Byte) (b : Byte), crc8 (bytes ++ [b]) = shift^[8] (crc8 bytes ^^^ b)) ∧
    crc8 [0x31, 0x32, 0x33, 0x34, 0x35, 0x36, 0x37, 0x38, 0x39] = 0xF4 ∧
    (∀ (code : Byte) (ps : List Byte), code ≠ 0 → ps.length ≤ 45 →
      paramLength code = none ∨ paramLength code = some ps.length →
      ∀ inside, inside = code :: natByte ps.length :: ps →
      examine ⟨inside ++ [crc8 inside], 0⟩ ≠ .badFrame)

/-- The frame of every management command is its code, the length of its parameters, the parameters in
the order of its owning rule and the CRC, by the command code table; it is read back as that command, with
every operand at every value; and a period that is read as a command is the frame of that command, to the
last bit (R175, R177). The other commands have no frame. A request period is a BAD_FRAME or a BAD_COMMAND
by the checks of R175. -/
def Obligations.FramesAreReadBack : Prop :=
  (∀ is : Instr → Byte → List Byte → Prop, is = (fun i code ps =>
      i.code = some (code, ps.length) ∧
      ∀ inside, inside = code :: BitVec.ofNat 8 ps.length :: ps →
        requestFrame i = some (inside ++ [crc8 inside])) →
    (∀ a b, is (.writePath a b) 0x10 [a, b]) ∧
    is .readPath 0x11 [] ∧
    (∀ p, is (.writeAperture p) 0x12 ([p.entry, p.valid] ++ fieldBytes 3 p.base ++ fieldBytes 3 p.limit
      ++ [p.view] ++ fieldBytes 2 p.writeSet ++ fieldBytes 2 p.readSet ++ [p.violation]
      ++ fieldBytes 4 p.backing ++ [p.width, p.depth] ++ fieldBytes 2 p.clearRead ++ [p.unlisted])) ∧
    (∀ a b, is (.readAperture a b) 0x13 [a, b]) ∧
    (∀ a m, is (.writeMask a m) 0x14 ([a] ++ fieldBytes 2 m)) ∧
    (∀ a, is (.readMask a) 0x15 [a]) ∧
    (∀ p, is (.writeStream p) 0x20 ([p.entry, p.valid] ++ fieldBytes 2 p.input ++ [p.outputPresent]
      ++ fieldBytes 2 p.output ++ [p.servPresent, p.service, p.treatment])) ∧
    (∀ a, is (.readStream a) 0x21 [a]) ∧
    (∀ p, is (.writeService p) 0x30
      ([p.service] ++ fieldBytes 2 p.period ++ fieldBytes 2 p.guard ++ [p.limit, p.policy])) ∧
    (∀ a, is (.readService a) 0x31 [a]) ∧
    (∀ a b word, is (.loadKey a b word) 0x32 ([a, b] ++ word.toList)) ∧
    (∀ a, is (.stop a) 0x33 [a]) ∧
    (∀ a b, is (.start a b) 0x34 [a, b]) ∧
    (∀ a, is (.flip a) 0x35 [a]) ∧
    (∀ p, is (.writeTimebase p) 0x40
      ([p.select, p.prescale] ++ fieldBytes 2 p.divider ++ fieldBytes 2 p.limit)) ∧
    is .readTimebase 0x41 [] ∧ is .acceptLocal 0x42 [] ∧
    (∀ p, is (.writeJob p) 0x50 ([p.slot, p.enable, p.kind] ++ fieldBytes 4 p.source
      ++ fieldBytes 4 p.target ++ fieldBytes 3 p.length ++ fieldBytes 8 p.pattern
      ++ [p.trigger, p.triggerOf, p.windowBound, p.boundary])) ∧
    (∀ a b, is (.readJob a b) 0x51 [a, b]) ∧
    (∀ a, is (.triggerJob a) 0x52 [a]) ∧
    is .readCapture 0x60 [] ∧ is .readEvents 0x61 [] ∧
    (∀ a b c d, is (.clearEvents a b c d) 0x62 [a, b, c, d]) ∧
    (∀ a b, is (.writeEventEnables a b) 0x63 [a, b]) ∧
    (∀ a, is (.ackGroup a) 0x64 [a]) ∧
    is .clearOverrun 0x65 [] ∧ is .pathReset 0x70 [] ∧ is .keyPurge 0x71 []) ∧
  (∀ i : Instr,
    (match i with
      | .takeRequest _ | .issueAccess _ | .memoryAnswer _ | .releaseResponse _ | .tick | .idleClose
      | .retirement _ _ | .expiry _ | .referenceQualified | .holdoverEnd | .referenceLost
      | .referenceReturned | .frameStart | .windowOpening | .windowClosing | .purgeAssertion
      | .purgeRelease | .resetAssertion | .resetRelease _ | .powerUp | .readPeriod _ | .badFrame _
      | .badCommand _ _ => True
      | _ => False) → i.code = none ∧ requestFrame i = none) ∧
  (∀ (code : Byte) (n : Nat), paramLength code = some n ↔ ∃ i : Instr, i.code = some (code, n)) ∧
  (∀ (p : Period) (first : Byte) (rest : List Byte), p.bytes = first :: rest → first ≠ 0 →
    ∀ n, n = (p.bytes.getD 1 0).toNat →
    ∀ framed : Prop, framed = (p.extraBits = 0 ∧ p.bytes.length = 3 + n ∧ n ≤ 45 ∧
      p.bytes.getD (n + 2) 0 = crc8 (p.bytes.take (n + 2))) →
    (examine p = .badFrame ↔ ¬ framed ∨ ∃ m, paramLength first = some m ∧ n ≠ m) ∧
    (examine p = .badCommand ↔ framed ∧ paramLength first = none)) ∧
  (∀ (i : Instr) (frame : List Byte), requestFrame i = some frame →
    examine ⟨frame, 0⟩ = .command i) ∧
  (∀ (p : Period) (i : Instr), examine p = .command i →
    requestFrame i = some p.bytes ∧ p.extraBits = 0)
end

