-- ==== Sys2Proof/Laws/State.lean ====
section
/-! SUPPORT. For each update of the state, one lemma for each field it leaves alone. -/

namespace Sys2Proof.Machine

variable (s : State)

/-! ### raiseGroup -/

@[simp] theorem raiseGroup_pending (g : Group) : (raiseGroup g s).pending = s.pending := rfl
@[simp] theorem raiseGroup_upstream (g : Group) : (raiseGroup g s).upstream = s.upstream := rfl
@[simp] theorem raiseGroup_delivered (g : Group) : (raiseGroup g s).delivered = s.delivered := rfl
@[simp] theorem raiseGroup_pendingList (g : Group) : (raiseGroup g s).pendingList = s.pendingList := rfl
@[simp] theorem raiseGroup_taken (g : Group) : (raiseGroup g s).taken = s.taken := rfl
@[simp] theorem raiseGroup_lastSource (g : Group) : (raiseGroup g s).lastSource = s.lastSource := rfl
@[simp] theorem raiseGroup_waiting (g : Group) : (raiseGroup g s).waiting = s.waiting := rfl
@[simp] theorem raiseGroup_outstanding (g : Group) : (raiseGroup g s).outstanding = s.outstanding := rfl
@[simp] theorem raiseGroup_apertures (g : Group) : (raiseGroup g s).apertures = s.apertures := rfl
@[simp] theorem raiseGroup_masks (g : Group) : (raiseGroup g s).masks = s.masks := rfl
@[simp] theorem raiseGroup_unmapped (g : Group) : (raiseGroup g s).unmapped = s.unmapped := rfl
@[simp] theorem raiseGroup_idleLimit (g : Group) : (raiseGroup g s).idleLimit = s.idleLimit := rfl
@[simp] theorem raiseGroup_mergeTable (g : Group) : (raiseGroup g s).mergeTable = s.mergeTable := rfl
@[simp] theorem raiseGroup_streams (g : Group) : (raiseGroup g s).streams = s.streams := rfl
@[simp] theorem raiseGroup_tracker (g : Group) : (raiseGroup g s).tracker = s.tracker := rfl
@[simp] theorem raiseGroup_services (g : Group) : (raiseGroup g s).services = s.services := rfl
@[simp] theorem raiseGroup_time (g : Group) : (raiseGroup g s).time = s.time := rfl
@[simp] theorem raiseGroup_tickOpen (g : Group) : (raiseGroup g s).tickOpen = s.tickOpen := rfl
@[simp] theorem raiseGroup_expiring (g : Group) : (raiseGroup g s).expiring = s.expiring := rfl
@[simp] theorem raiseGroup_jobs (g : Group) : (raiseGroup g s).jobs = s.jobs := rfl
@[simp] theorem raiseGroup_boundary (g : Group) : (raiseGroup g s).boundary = s.boundary := rfl
@[simp] theorem raiseGroup_remembered (g : Group) : (raiseGroup g s).remembered = s.remembered := rfl
@[simp] theorem raiseGroup_run (g : Group) : (raiseGroup g s).run = s.run := rfl
@[simp] theorem raiseGroup_capture (g : Group) : (raiseGroup g s).capture = s.capture := rfl
@[simp] theorem raiseGroup_overrun (g : Group) : (raiseGroup g s).overrun = s.overrun := rfl
@[simp] theorem raiseGroup_flags (g : Group) : (raiseGroup g s).flags = s.flags := rfl
@[simp] theorem raiseGroup_enables (g : Group) : (raiseGroup g s).enables = s.enables := rfl
@[simp] theorem raiseGroup_heldResponse (g : Group) : (raiseGroup g s).heldResponse = s.heldResponse := rfl
@[simp] theorem raiseGroup_readPosition (g : Group) : (raiseGroup g s).readPosition = s.readPosition := rfl
@[simp] theorem raiseGroup_miso (g : Group) : (raiseGroup g s).miso = s.miso := rfl
@[simp] theorem raiseGroup_selectIgnored (g : Group) : (raiseGroup g s).selectIgnored = s.selectIgnored := rfl
@[simp] theorem raiseGroup_purgeHeld (g : Group) : (raiseGroup g s).purgeHeld = s.purgeHeld := rfl
@[simp] theorem raiseGroup_inReset (g : Group) : (raiseGroup g s).inReset = s.inReset := rfl

/-! ### setCause -/

@[simp] theorem setCause_pending (c : Cause) : (setCause c s).pending = s.pending := by unfold setCause; dsimp only; split <;> rfl
@[simp] theorem setCause_upstream (c : Cause) : (setCause c s).upstream = s.upstream := by unfold setCause; dsimp only; split <;> rfl
@[simp] theorem setCause_delivered (c : Cause) : (setCause c s).delivered = s.delivered := by unfold setCause; dsimp only; split <;> rfl
@[simp] theorem setCause_pendingList (c : Cause) : (setCause c s).pendingList = s.pendingList := by unfold setCause; dsimp only; split <;> rfl
@[simp] theorem setCause_taken (c : Cause) : (setCause c s).taken = s.taken := by unfold setCause; dsimp only; split <;> rfl
@[simp] theorem setCause_lastSource (c : Cause) : (setCause c s).lastSource = s.lastSource := by unfold setCause; dsimp only; split <;> rfl
@[simp] theorem setCause_waiting (c : Cause) : (setCause c s).waiting = s.waiting := by unfold setCause; dsimp only; split <;> rfl
@[simp] theorem setCause_outstanding (c : Cause) : (setCause c s).outstanding = s.outstanding := by unfold setCause; dsimp only; split <;> rfl
@[simp] theorem setCause_apertures (c : Cause) : (setCause c s).apertures = s.apertures := by unfold setCause; dsimp only; split <;> rfl
@[simp] theorem setCause_masks (c : Cause) : (setCause c s).masks = s.masks := by unfold setCause; dsimp only; split <;> rfl
@[simp] theorem setCause_unmapped (c : Cause) : (setCause c s).unmapped = s.unmapped := by unfold setCause; dsimp only; split <;> rfl
@[simp] theorem setCause_idleLimit (c : Cause) : (setCause c s).idleLimit = s.idleLimit := by unfold setCause; dsimp only; split <;> rfl
@[simp] theorem setCause_mergeTable (c : Cause) : (setCause c s).mergeTable = s.mergeTable := by unfold setCause; dsimp only; split <;> rfl
@[simp] theorem setCause_streams (c : Cause) : (setCause c s).streams = s.streams := by unfold setCause; dsimp only; split <;> rfl
@[simp] theorem setCause_tracker (c : Cause) : (setCause c s).tracker = s.tracker := by unfold setCause; dsimp only; split <;> rfl
@[simp] theorem setCause_services (c : Cause) : (setCause c s).services = s.services := by unfold setCause; dsimp only; split <;> rfl
@[simp] theorem setCause_time (c : Cause) : (setCause c s).time = s.time := by unfold setCause; dsimp only; split <;> rfl
@[simp] theorem setCause_tickOpen (c : Cause) : (setCause c s).tickOpen = s.tickOpen := by unfold setCause; dsimp only; split <;> rfl
@[simp] theorem setCause_expiring (c : Cause) : (setCause c s).expiring = s.expiring := by unfold setCause; dsimp only; split <;> rfl
@[simp] theorem setCause_jobs (c : Cause) : (setCause c s).jobs = s.jobs := by unfold setCause; dsimp only; split <;> rfl
@[simp] theorem setCause_boundary (c : Cause) : (setCause c s).boundary = s.boundary := by unfold setCause; dsimp only; split <;> rfl
@[simp] theorem setCause_remembered (c : Cause) : (setCause c s).remembered = s.remembered := by unfold setCause; dsimp only; split <;> rfl
@[simp] theorem setCause_run (c : Cause) : (setCause c s).run = s.run := by unfold setCause; dsimp only; split <;> rfl
@[simp] theorem setCause_capture (c : Cause) : (setCause c s).capture = s.capture := by unfold setCause; dsimp only; split <;> rfl
@[simp] theorem setCause_overrun (c : Cause) : (setCause c s).overrun = s.overrun := by unfold setCause; dsimp only; split <;> rfl
@[simp] theorem setCause_enables (c : Cause) : (setCause c s).enables = s.enables := by unfold setCause; dsimp only; split <;> rfl
@[simp] theorem setCause_heldResponse (c : Cause) : (setCause c s).heldResponse = s.heldResponse := by unfold setCause; dsimp only; split <;> rfl
@[simp] theorem setCause_readPosition (c : Cause) : (setCause c s).readPosition = s.readPosition := by unfold setCause; dsimp only; split <;> rfl
@[simp] theorem setCause_miso (c : Cause) : (setCause c s).miso = s.miso := by unfold setCause; dsimp only; split <;> rfl
@[simp] theorem setCause_selectIgnored (c : Cause) : (setCause c s).selectIgnored = s.selectIgnored := by unfold setCause; dsimp only; split <;> rfl
@[simp] theorem setCause_purgeHeld (c : Cause) : (setCause c s).purgeHeld = s.purgeHeld := by unfold setCause; dsimp only; split <;> rfl
@[simp] theorem setCause_inReset (c : Cause) : (setCause c s).inReset = s.inReset := by unfold setCause; dsimp only; split <;> rfl

/-! ### clearCause -/

@[simp] theorem clearCause_pending (c : Cause) : (clearCause c s).pending = s.pending := rfl
@[simp] theorem clearCause_upstream (c : Cause) : (clearCause c s).upstream = s.upstream := rfl
@[simp] theorem clearCause_delivered (c : Cause) : (clearCause c s).delivered = s.delivered := rfl
@[simp] theorem clearCause_pendingList (c : Cause) : (clearCause c s).pendingList = s.pendingList := rfl
@[simp] theorem clearCause_taken (c : Cause) : (clearCause c s).taken = s.taken := rfl
@[simp] theorem clearCause_lastSource (c : Cause) : (clearCause c s).lastSource = s.lastSource := rfl
@[simp] theorem clearCause_waiting (c : Cause) : (clearCause c s).waiting = s.waiting := rfl
@[simp] theorem clearCause_outstanding (c : Cause) : (clearCause c s).outstanding = s.outstanding := rfl
@[simp] theorem clearCause_apertures (c : Cause) : (clearCause c s).apertures = s.apertures := rfl
@[simp] theorem clearCause_masks (c : Cause) : (clearCause c s).masks = s.masks := rfl
@[simp] theorem clearCause_unmapped (c : Cause) : (clearCause c s).unmapped = s.unmapped := rfl
@[simp] theorem clearCause_idleLimit (c : Cause) : (clearCause c s).idleLimit = s.idleLimit := rfl
@[simp] theorem clearCause_mergeTable (c : Cause) : (clearCause c s).mergeTable = s.mergeTable := rfl
@[simp] theorem clearCause_streams (c : Cause) : (clearCause c s).streams = s.streams := rfl
@[simp] theorem clearCause_tracker (c : Cause) : (clearCause c s).tracker = s.tracker := rfl
@[simp] theorem clearCause_services (c : Cause) : (clearCause c s).services = s.services := rfl
@[simp] theorem clearCause_time (c : Cause) : (clearCause c s).time = s.time := rfl
@[simp] theorem clearCause_tickOpen (c : Cause) : (clearCause c s).tickOpen = s.tickOpen := rfl
@[simp] theorem clearCause_expiring (c : Cause) : (clearCause c s).expiring = s.expiring := rfl
@[simp] theorem clearCause_jobs (c : Cause) : (clearCause c s).jobs = s.jobs := rfl
@[simp] theorem clearCause_boundary (c : Cause) : (clearCause c s).boundary = s.boundary := rfl
@[simp] theorem clearCause_remembered (c : Cause) : (clearCause c s).remembered = s.remembered := rfl
@[simp] theorem clearCause_run (c : Cause) : (clearCause c s).run = s.run := rfl
@[simp] theorem clearCause_capture (c : Cause) : (clearCause c s).capture = s.capture := rfl
@[simp] theorem clearCause_overrun (c : Cause) : (clearCause c s).overrun = s.overrun := rfl
@[simp] theorem clearCause_enables (c : Cause) : (clearCause c s).enables = s.enables := rfl
@[simp] theorem clearCause_raised (c : Cause) : (clearCause c s).raised = s.raised := rfl
@[simp] theorem clearCause_heldResponse (c : Cause) : (clearCause c s).heldResponse = s.heldResponse := rfl
@[simp] theorem clearCause_readPosition (c : Cause) : (clearCause c s).readPosition = s.readPosition := rfl
@[simp] theorem clearCause_miso (c : Cause) : (clearCause c s).miso = s.miso := rfl
@[simp] theorem clearCause_selectIgnored (c : Cause) : (clearCause c s).selectIgnored = s.selectIgnored := rfl
@[simp] theorem clearCause_purgeHeld (c : Cause) : (clearCause c s).purgeHeld = s.purgeHeld := rfl
@[simp] theorem clearCause_inReset (c : Cause) : (clearCause c s).inReset = s.inReset := rfl

/-! ### raiseIfDue -/

@[simp] theorem raiseIfDue_pending (g : Group) : (raiseIfDue g s).pending = s.pending := by unfold raiseIfDue; split <;> rfl
@[simp] theorem raiseIfDue_upstream (g : Group) : (raiseIfDue g s).upstream = s.upstream := by unfold raiseIfDue; split <;> rfl
@[simp] theorem raiseIfDue_delivered (g : Group) : (raiseIfDue g s).delivered = s.delivered := by unfold raiseIfDue; split <;> rfl
@[simp] theorem raiseIfDue_pendingList (g : Group) : (raiseIfDue g s).pendingList = s.pendingList := by unfold raiseIfDue; split <;> rfl
@[simp] theorem raiseIfDue_taken (g : Group) : (raiseIfDue g s).taken = s.taken := by unfold raiseIfDue; split <;> rfl
@[simp] theorem raiseIfDue_lastSource (g : Group) : (raiseIfDue g s).lastSource = s.lastSource := by unfold raiseIfDue; split <;> rfl
@[simp] theorem raiseIfDue_waiting (g : Group) : (raiseIfDue g s).waiting = s.waiting := by unfold raiseIfDue; split <;> rfl
@[simp] theorem raiseIfDue_outstanding (g : Group) : (raiseIfDue g s).outstanding = s.outstanding := by unfold raiseIfDue; split <;> rfl
@[simp] theorem raiseIfDue_apertures (g : Group) : (raiseIfDue g s).apertures = s.apertures := by unfold raiseIfDue; split <;> rfl
@[simp] theorem raiseIfDue_masks (g : Group) : (raiseIfDue g s).masks = s.masks := by unfold raiseIfDue; split <;> rfl
@[simp] theorem raiseIfDue_unmapped (g : Group) : (raiseIfDue g s).unmapped = s.unmapped := by unfold raiseIfDue; split <;> rfl
@[simp] theorem raiseIfDue_idleLimit (g : Group) : (raiseIfDue g s).idleLimit = s.idleLimit := by unfold raiseIfDue; split <;> rfl
@[simp] theorem raiseIfDue_mergeTable (g : Group) : (raiseIfDue g s).mergeTable = s.mergeTable := by unfold raiseIfDue; split <;> rfl
@[simp] theorem raiseIfDue_streams (g : Group) : (raiseIfDue g s).streams = s.streams := by unfold raiseIfDue; split <;> rfl
@[simp] theorem raiseIfDue_tracker (g : Group) : (raiseIfDue g s).tracker = s.tracker := by unfold raiseIfDue; split <;> rfl
@[simp] theorem raiseIfDue_services (g : Group) : (raiseIfDue g s).services = s.services := by unfold raiseIfDue; split <;> rfl
@[simp] theorem raiseIfDue_time (g : Group) : (raiseIfDue g s).time = s.time := by unfold raiseIfDue; split <;> rfl
@[simp] theorem raiseIfDue_tickOpen (g : Group) : (raiseIfDue g s).tickOpen = s.tickOpen := by unfold raiseIfDue; split <;> rfl
@[simp] theorem raiseIfDue_expiring (g : Group) : (raiseIfDue g s).expiring = s.expiring := by unfold raiseIfDue; split <;> rfl
@[simp] theorem raiseIfDue_jobs (g : Group) : (raiseIfDue g s).jobs = s.jobs := by unfold raiseIfDue; split <;> rfl
@[simp] theorem raiseIfDue_boundary (g : Group) : (raiseIfDue g s).boundary = s.boundary := by unfold raiseIfDue; split <;> rfl
@[simp] theorem raiseIfDue_remembered (g : Group) : (raiseIfDue g s).remembered = s.remembered := by unfold raiseIfDue; split <;> rfl
@[simp] theorem raiseIfDue_run (g : Group) : (raiseIfDue g s).run = s.run := by unfold raiseIfDue; split <;> rfl
@[simp] theorem raiseIfDue_capture (g : Group) : (raiseIfDue g s).capture = s.capture := by unfold raiseIfDue; split <;> rfl
@[simp] theorem raiseIfDue_overrun (g : Group) : (raiseIfDue g s).overrun = s.overrun := by unfold raiseIfDue; split <;> rfl
@[simp] theorem raiseIfDue_flags (g : Group) : (raiseIfDue g s).flags = s.flags := by unfold raiseIfDue; split <;> rfl
@[simp] theorem raiseIfDue_enables (g : Group) : (raiseIfDue g s).enables = s.enables := by unfold raiseIfDue; split <;> rfl
@[simp] theorem raiseIfDue_heldResponse (g : Group) : (raiseIfDue g s).heldResponse = s.heldResponse := by unfold raiseIfDue; split <;> rfl
@[simp] theorem raiseIfDue_readPosition (g : Group) : (raiseIfDue g s).readPosition = s.readPosition := by unfold raiseIfDue; split <;> rfl
@[simp] theorem raiseIfDue_miso (g : Group) : (raiseIfDue g s).miso = s.miso := by unfold raiseIfDue; split <;> rfl
@[simp] theorem raiseIfDue_selectIgnored (g : Group) : (raiseIfDue g s).selectIgnored = s.selectIgnored := by unfold raiseIfDue; split <;> rfl
@[simp] theorem raiseIfDue_purgeHeld (g : Group) : (raiseIfDue g s).purgeHeld = s.purgeHeld := by unfold raiseIfDue; split <;> rfl
@[simp] theorem raiseIfDue_inReset (g : Group) : (raiseIfDue g s).inReset = s.inReset := by unfold raiseIfDue; split <;> rfl

/-! ### offer -/

@[simp] theorem offer_pending (r : CaptureRecord) : (offer r s).pending = s.pending := by unfold offer; dsimp only; repeat' split <;> simp
@[simp] theorem offer_upstream (r : CaptureRecord) : (offer r s).upstream = s.upstream := by unfold offer; dsimp only; repeat' split <;> simp
@[simp] theorem offer_delivered (r : CaptureRecord) : (offer r s).delivered = s.delivered := by unfold offer; dsimp only; repeat' split <;> simp
@[simp] theorem offer_pendingList (r : CaptureRecord) : (offer r s).pendingList = s.pendingList := by unfold offer; dsimp only; repeat' split <;> simp
@[simp] theorem offer_taken (r : CaptureRecord) : (offer r s).taken = s.taken := by unfold offer; dsimp only; repeat' split <;> simp
@[simp] theorem offer_lastSource (r : CaptureRecord) : (offer r s).lastSource = s.lastSource := by unfold offer; dsimp only; repeat' split <;> simp
@[simp] theorem offer_waiting (r : CaptureRecord) : (offer r s).waiting = s.waiting := by unfold offer; dsimp only; repeat' split <;> simp
@[simp] theorem offer_outstanding (r : CaptureRecord) : (offer r s).outstanding = s.outstanding := by unfold offer; dsimp only; repeat' split <;> simp
@[simp] theorem offer_apertures (r : CaptureRecord) : (offer r s).apertures = s.apertures := by unfold offer; dsimp only; repeat' split <;> simp
@[simp] theorem offer_masks (r : CaptureRecord) : (offer r s).masks = s.masks := by unfold offer; dsimp only; repeat' split <;> simp
@[simp] theorem offer_unmapped (r : CaptureRecord) : (offer r s).unmapped = s.unmapped := by unfold offer; dsimp only; repeat' split <;> simp
@[simp] theorem offer_idleLimit (r : CaptureRecord) : (offer r s).idleLimit = s.idleLimit := by unfold offer; dsimp only; repeat' split <;> simp
@[simp] theorem offer_mergeTable (r : CaptureRecord) : (offer r s).mergeTable = s.mergeTable := by unfold offer; dsimp only; repeat' split <;> simp
@[simp] theorem offer_streams (r : CaptureRecord) : (offer r s).streams = s.streams := by unfold offer; dsimp only; repeat' split <;> simp
@[simp] theorem offer_tracker (r : CaptureRecord) : (offer r s).tracker = s.tracker := by unfold offer; dsimp only; repeat' split <;> simp
@[simp] theorem offer_services (r : CaptureRecord) : (offer r s).services = s.services := by unfold offer; dsimp only; repeat' split <;> simp
@[simp] theorem offer_time (r : CaptureRecord) : (offer r s).time = s.time := by unfold offer; dsimp only; repeat' split <;> simp
@[simp] theorem offer_tickOpen (r : CaptureRecord) : (offer r s).tickOpen = s.tickOpen := by unfold offer; dsimp only; repeat' split <;> simp
@[simp] theorem offer_expiring (r : CaptureRecord) : (offer r s).expiring = s.expiring := by unfold offer; dsimp only; repeat' split <;> simp
@[simp] theorem offer_jobs (r : CaptureRecord) : (offer r s).jobs = s.jobs := by unfold offer; dsimp only; repeat' split <;> simp
@[simp] theorem offer_boundary (r : CaptureRecord) : (offer r s).boundary = s.boundary := by unfold offer; dsimp only; repeat' split <;> simp
@[simp] theorem offer_remembered (r : CaptureRecord) : (offer r s).remembered = s.remembered := by unfold offer; dsimp only; repeat' split <;> simp
@[simp] theorem offer_run (r : CaptureRecord) : (offer r s).run = s.run := by unfold offer; dsimp only; repeat' split <;> simp
@[simp] theorem offer_enables (r : CaptureRecord) : (offer r s).enables = s.enables := by unfold offer; dsimp only; repeat' split <;> simp
@[simp] theorem offer_heldResponse (r : CaptureRecord) : (offer r s).heldResponse = s.heldResponse := by unfold offer; dsimp only; repeat' split <;> simp
@[simp] theorem offer_readPosition (r : CaptureRecord) : (offer r s).readPosition = s.readPosition := by unfold offer; dsimp only; repeat' split <;> simp
@[simp] theorem offer_miso (r : CaptureRecord) : (offer r s).miso = s.miso := by unfold offer; dsimp only; repeat' split <;> simp
@[simp] theorem offer_selectIgnored (r : CaptureRecord) : (offer r s).selectIgnored = s.selectIgnored := by unfold offer; dsimp only; repeat' split <;> simp
@[simp] theorem offer_purgeHeld (r : CaptureRecord) : (offer r s).purgeHeld = s.purgeHeld := by unfold offer; dsimp only; repeat' split <;> simp
@[simp] theorem offer_inReset (r : CaptureRecord) : (offer r s).inReset = s.inReset := by unfold offer; dsimp only; repeat' split <;> simp

/-! ### updateSegment -/

@[simp] theorem updateSegment_pending (ref : SegRef) (f : Segment → Segment) : (updateSegment ref f s).pending = s.pending := rfl
@[simp] theorem updateSegment_upstream (ref : SegRef) (f : Segment → Segment) : (updateSegment ref f s).upstream = s.upstream := rfl
@[simp] theorem updateSegment_delivered (ref : SegRef) (f : Segment → Segment) : (updateSegment ref f s).delivered = s.delivered := rfl
@[simp] theorem updateSegment_taken (ref : SegRef) (f : Segment → Segment) : (updateSegment ref f s).taken = s.taken := rfl
@[simp] theorem updateSegment_lastSource (ref : SegRef) (f : Segment → Segment) : (updateSegment ref f s).lastSource = s.lastSource := rfl
@[simp] theorem updateSegment_waiting (ref : SegRef) (f : Segment → Segment) : (updateSegment ref f s).waiting = s.waiting := rfl
@[simp] theorem updateSegment_outstanding (ref : SegRef) (f : Segment → Segment) : (updateSegment ref f s).outstanding = s.outstanding := rfl
@[simp] theorem updateSegment_apertures (ref : SegRef) (f : Segment → Segment) : (updateSegment ref f s).apertures = s.apertures := rfl
@[simp] theorem updateSegment_masks (ref : SegRef) (f : Segment → Segment) : (updateSegment ref f s).masks = s.masks := rfl
@[simp] theorem updateSegment_unmapped (ref : SegRef) (f : Segment → Segment) : (updateSegment ref f s).unmapped = s.unmapped := rfl
@[simp] theorem updateSegment_idleLimit (ref : SegRef) (f : Segment → Segment) : (updateSegment ref f s).idleLimit = s.idleLimit := rfl
@[simp] theorem updateSegment_mergeTable (ref : SegRef) (f : Segment → Segment) : (updateSegment ref f s).mergeTable = s.mergeTable := rfl
@[simp] theorem updateSegment_streams (ref : SegRef) (f : Segment → Segment) : (updateSegment ref f s).streams = s.streams := rfl
@[simp] theorem updateSegment_tracker (ref : SegRef) (f : Segment → Segment) : (updateSegment ref f s).tracker = s.tracker := rfl
@[simp] theorem updateSegment_services (ref : SegRef) (f : Segment → Segment) : (updateSegment ref f s).services = s.services := rfl
@[simp] theorem updateSegment_time (ref : SegRef) (f : Segment → Segment) : (updateSegment ref f s).time = s.time := rfl
@[simp] theorem updateSegment_tickOpen (ref : SegRef) (f : Segment → Segment) : (updateSegment ref f s).tickOpen = s.tickOpen := rfl
@[simp] theorem updateSegment_expiring (ref : SegRef) (f : Segment → Segment) : (updateSegment ref f s).expiring = s.expiring := rfl
@[simp] theorem updateSegment_jobs (ref : SegRef) (f : Segment → Segment) : (updateSegment ref f s).jobs = s.jobs := rfl
@[simp] theorem updateSegment_boundary (ref : SegRef) (f : Segment → Segment) : (updateSegment ref f s).boundary = s.boundary := rfl
@[simp] theorem updateSegment_remembered (ref : SegRef) (f : Segment → Segment) : (updateSegment ref f s).remembered = s.remembered := rfl
@[simp] theorem updateSegment_run (ref : SegRef) (f : Segment → Segment) : (updateSegment ref f s).run = s.run := rfl
@[simp] theorem updateSegment_capture (ref : SegRef) (f : Segment → Segment) : (updateSegment ref f s).capture = s.capture := rfl
@[simp] theorem updateSegment_overrun (ref : SegRef) (f : Segment → Segment) : (updateSegment ref f s).overrun = s.overrun := rfl
@[simp] theorem updateSegment_flags (ref : SegRef) (f : Segment → Segment) : (updateSegment ref f s).flags = s.flags := rfl
@[simp] theorem updateSegment_enables (ref : SegRef) (f : Segment → Segment) : (updateSegment ref f s).enables = s.enables := rfl
@[simp] theorem updateSegment_raised (ref : SegRef) (f : Segment → Segment) : (updateSegment ref f s).raised = s.raised := rfl
@[simp] theorem updateSegment_heldResponse (ref : SegRef) (f : Segment → Segment) : (updateSegment ref f s).heldResponse = s.heldResponse := rfl
@[simp] theorem updateSegment_readPosition (ref : SegRef) (f : Segment → Segment) : (updateSegment ref f s).readPosition = s.readPosition := rfl
@[simp] theorem updateSegment_miso (ref : SegRef) (f : Segment → Segment) : (updateSegment ref f s).miso = s.miso := rfl
@[simp] theorem updateSegment_selectIgnored (ref : SegRef) (f : Segment → Segment) : (updateSegment ref f s).selectIgnored = s.selectIgnored := rfl
@[simp] theorem updateSegment_purgeHeld (ref : SegRef) (f : Segment → Segment) : (updateSegment ref f s).purgeHeld = s.purgeHeld := rfl
@[simp] theorem updateSegment_inReset (ref : SegRef) (f : Segment → Segment) : (updateSegment ref f s).inReset = s.inReset := rfl

/-! ### setWork -/

@[simp] theorem setWork_pending (ref : SegRef) (w : SegWork) : (setWork ref w s).pending = s.pending := rfl
@[simp] theorem setWork_upstream (ref : SegRef) (w : SegWork) : (setWork ref w s).upstream = s.upstream := rfl
@[simp] theorem setWork_delivered (ref : SegRef) (w : SegWork) : (setWork ref w s).delivered = s.delivered := rfl
@[simp] theorem setWork_taken (ref : SegRef) (w : SegWork) : (setWork ref w s).taken = s.taken := rfl
@[simp] theorem setWork_lastSource (ref : SegRef) (w : SegWork) : (setWork ref w s).lastSource = s.lastSource := rfl
@[simp] theorem setWork_waiting (ref : SegRef) (w : SegWork) : (setWork ref w s).waiting = s.waiting := rfl
@[simp] theorem setWork_outstanding (ref : SegRef) (w : SegWork) : (setWork ref w s).outstanding = s.outstanding := rfl
@[simp] theorem setWork_apertures (ref : SegRef) (w : SegWork) : (setWork ref w s).apertures = s.apertures := rfl
@[simp] theorem setWork_masks (ref : SegRef) (w : SegWork) : (setWork ref w s).masks = s.masks := rfl
@[simp] theorem setWork_unmapped (ref : SegRef) (w : SegWork) : (setWork ref w s).unmapped = s.unmapped := rfl
@[simp] theorem setWork_idleLimit (ref : SegRef) (w : SegWork) : (setWork ref w s).idleLimit = s.idleLimit := rfl
@[simp] theorem setWork_mergeTable (ref : SegRef) (w : SegWork) : (setWork ref w s).mergeTable = s.mergeTable := rfl
@[simp] theorem setWork_streams (ref : SegRef) (w : SegWork) : (setWork ref w s).streams = s.streams := rfl
@[simp] theorem setWork_tracker (ref : SegRef) (w : SegWork) : (setWork ref w s).tracker = s.tracker := rfl
@[simp] theorem setWork_services (ref : SegRef) (w : SegWork) : (setWork ref w s).services = s.services := rfl
@[simp] theorem setWork_time (ref : SegRef) (w : SegWork) : (setWork ref w s).time = s.time := rfl
@[simp] theorem setWork_tickOpen (ref : SegRef) (w : SegWork) : (setWork ref w s).tickOpen = s.tickOpen := rfl
@[simp] theorem setWork_expiring (ref : SegRef) (w : SegWork) : (setWork ref w s).expiring = s.expiring := rfl
@[simp] theorem setWork_jobs (ref : SegRef) (w : SegWork) : (setWork ref w s).jobs = s.jobs := rfl
@[simp] theorem setWork_boundary (ref : SegRef) (w : SegWork) : (setWork ref w s).boundary = s.boundary := rfl
@[simp] theorem setWork_remembered (ref : SegRef) (w : SegWork) : (setWork ref w s).remembered = s.remembered := rfl
@[simp] theorem setWork_run (ref : SegRef) (w : SegWork) : (setWork ref w s).run = s.run := rfl
@[simp] theorem setWork_capture (ref : SegRef) (w : SegWork) : (setWork ref w s).capture = s.capture := rfl
@[simp] theorem setWork_overrun (ref : SegRef) (w : SegWork) : (setWork ref w s).overrun = s.overrun := rfl
@[simp] theorem setWork_flags (ref : SegRef) (w : SegWork) : (setWork ref w s).flags = s.flags := rfl
@[simp] theorem setWork_enables (ref : SegRef) (w : SegWork) : (setWork ref w s).enables = s.enables := rfl
@[simp] theorem setWork_raised (ref : SegRef) (w : SegWork) : (setWork ref w s).raised = s.raised := rfl
@[simp] theorem setWork_heldResponse (ref : SegRef) (w : SegWork) : (setWork ref w s).heldResponse = s.heldResponse := rfl
@[simp] theorem setWork_readPosition (ref : SegRef) (w : SegWork) : (setWork ref w s).readPosition = s.readPosition := rfl
@[simp] theorem setWork_miso (ref : SegRef) (w : SegWork) : (setWork ref w s).miso = s.miso := rfl
@[simp] theorem setWork_selectIgnored (ref : SegRef) (w : SegWork) : (setWork ref w s).selectIgnored = s.selectIgnored := rfl
@[simp] theorem setWork_purgeHeld (ref : SegRef) (w : SegWork) : (setWork ref w s).purgeHeld = s.purgeHeld := rfl
@[simp] theorem setWork_inReset (ref : SegRef) (w : SegWork) : (setWork ref w s).inReset = s.inReset := rfl

/-! ### finishSegment -/

@[simp] theorem finishSegment_pending (ref : SegRef) (st : SegState) (d : List Word) : (finishSegment ref st d s).pending = s.pending := rfl
@[simp] theorem finishSegment_upstream (ref : SegRef) (st : SegState) (d : List Word) : (finishSegment ref st d s).upstream = s.upstream := rfl
@[simp] theorem finishSegment_delivered (ref : SegRef) (st : SegState) (d : List Word) : (finishSegment ref st d s).delivered = s.delivered := rfl
@[simp] theorem finishSegment_taken (ref : SegRef) (st : SegState) (d : List Word) : (finishSegment ref st d s).taken = s.taken := rfl
@[simp] theorem finishSegment_lastSource (ref : SegRef) (st : SegState) (d : List Word) : (finishSegment ref st d s).lastSource = s.lastSource := rfl
@[simp] theorem finishSegment_waiting (ref : SegRef) (st : SegState) (d : List Word) : (finishSegment ref st d s).waiting = s.waiting := rfl
@[simp] theorem finishSegment_outstanding (ref : SegRef) (st : SegState) (d : List Word) : (finishSegment ref st d s).outstanding = s.outstanding := rfl
@[simp] theorem finishSegment_apertures (ref : SegRef) (st : SegState) (d : List Word) : (finishSegment ref st d s).apertures = s.apertures := rfl
@[simp] theorem finishSegment_masks (ref : SegRef) (st : SegState) (d : List Word) : (finishSegment ref st d s).masks = s.masks := rfl
@[simp] theorem finishSegment_unmapped (ref : SegRef) (st : SegState) (d : List Word) : (finishSegment ref st d s).unmapped = s.unmapped := rfl
@[simp] theorem finishSegment_idleLimit (ref : SegRef) (st : SegState) (d : List Word) : (finishSegment ref st d s).idleLimit = s.idleLimit := rfl
@[simp] theorem finishSegment_mergeTable (ref : SegRef) (st : SegState) (d : List Word) : (finishSegment ref st d s).mergeTable = s.mergeTable := rfl
@[simp] theorem finishSegment_streams (ref : SegRef) (st : SegState) (d : List Word) : (finishSegment ref st d s).streams = s.streams := rfl
@[simp] theorem finishSegment_tracker (ref : SegRef) (st : SegState) (d : List Word) : (finishSegment ref st d s).tracker = s.tracker := rfl
@[simp] theorem finishSegment_services (ref : SegRef) (st : SegState) (d : List Word) : (finishSegment ref st d s).services = s.services := rfl
@[simp] theorem finishSegment_time (ref : SegRef) (st : SegState) (d : List Word) : (finishSegment ref st d s).time = s.time := rfl
@[simp] theorem finishSegment_tickOpen (ref : SegRef) (st : SegState) (d : List Word) : (finishSegment ref st d s).tickOpen = s.tickOpen := rfl
@[simp] theorem finishSegment_expiring (ref : SegRef) (st : SegState) (d : List Word) : (finishSegment ref st d s).expiring = s.expiring := rfl
@[simp] theorem finishSegment_jobs (ref : SegRef) (st : SegState) (d : List Word) : (finishSegment ref st d s).jobs = s.jobs := rfl
@[simp] theorem finishSegment_boundary (ref : SegRef) (st : SegState) (d : List Word) : (finishSegment ref st d s).boundary = s.boundary := rfl
@[simp] theorem finishSegment_remembered (ref : SegRef) (st : SegState) (d : List Word) : (finishSegment ref st d s).remembered = s.remembered := rfl
@[simp] theorem finishSegment_run (ref : SegRef) (st : SegState) (d : List Word) : (finishSegment ref st d s).run = s.run := rfl
@[simp] theorem finishSegment_capture (ref : SegRef) (st : SegState) (d : List Word) : (finishSegment ref st d s).capture = s.capture := rfl
@[simp] theorem finishSegment_overrun (ref : SegRef) (st : SegState) (d : List Word) : (finishSegment ref st d s).overrun = s.overrun := rfl
@[simp] theorem finishSegment_flags (ref : SegRef) (st : SegState) (d : List Word) : (finishSegment ref st d s).flags = s.flags := rfl
@[simp] theorem finishSegment_enables (ref : SegRef) (st : SegState) (d : List Word) : (finishSegment ref st d s).enables = s.enables := rfl
@[simp] theorem finishSegment_raised (ref : SegRef) (st : SegState) (d : List Word) : (finishSegment ref st d s).raised = s.raised := rfl
@[simp] theorem finishSegment_heldResponse (ref : SegRef) (st : SegState) (d : List Word) : (finishSegment ref st d s).heldResponse = s.heldResponse := rfl
@[simp] theorem finishSegment_readPosition (ref : SegRef) (st : SegState) (d : List Word) : (finishSegment ref st d s).readPosition = s.readPosition := rfl
@[simp] theorem finishSegment_miso (ref : SegRef) (st : SegState) (d : List Word) : (finishSegment ref st d s).miso = s.miso := rfl
@[simp] theorem finishSegment_selectIgnored (ref : SegRef) (st : SegState) (d : List Word) : (finishSegment ref st d s).selectIgnored = s.selectIgnored := rfl
@[simp] theorem finishSegment_purgeHeld (ref : SegRef) (st : SegState) (d : List Word) : (finishSegment ref st d s).purgeHeld = s.purgeHeld := rfl
@[simp] theorem finishSegment_inReset (ref : SegRef) (st : SegState) (d : List Word) : (finishSegment ref st d s).inReset = s.inReset := rfl

/-! ### handAccess -/

@[simp] theorem handAccess_pending (a : Access) : (handAccess a s).pending = s.pending := rfl
@[simp] theorem handAccess_upstream (a : Access) : (handAccess a s).upstream = s.upstream := rfl
@[simp] theorem handAccess_delivered (a : Access) : (handAccess a s).delivered = s.delivered := rfl
@[simp] theorem handAccess_pendingList (a : Access) : (handAccess a s).pendingList = s.pendingList := rfl
@[simp] theorem handAccess_taken (a : Access) : (handAccess a s).taken = s.taken := rfl
@[simp] theorem handAccess_lastSource (a : Access) : (handAccess a s).lastSource = s.lastSource := rfl
@[simp] theorem handAccess_outstanding (a : Access) : (handAccess a s).outstanding = s.outstanding := rfl
@[simp] theorem handAccess_apertures (a : Access) : (handAccess a s).apertures = s.apertures := rfl
@[simp] theorem handAccess_masks (a : Access) : (handAccess a s).masks = s.masks := rfl
@[simp] theorem handAccess_unmapped (a : Access) : (handAccess a s).unmapped = s.unmapped := rfl
@[simp] theorem handAccess_idleLimit (a : Access) : (handAccess a s).idleLimit = s.idleLimit := rfl
@[simp] theorem handAccess_mergeTable (a : Access) : (handAccess a s).mergeTable = s.mergeTable := rfl
@[simp] theorem handAccess_streams (a : Access) : (handAccess a s).streams = s.streams := rfl
@[simp] theorem handAccess_tracker (a : Access) : (handAccess a s).tracker = s.tracker := rfl
@[simp] theorem handAccess_services (a : Access) : (handAccess a s).services = s.services := rfl
@[simp] theorem handAccess_time (a : Access) : (handAccess a s).time = s.time := rfl
@[simp] theorem handAccess_tickOpen (a : Access) : (handAccess a s).tickOpen = s.tickOpen := rfl
@[simp] theorem handAccess_expiring (a : Access) : (handAccess a s).expiring = s.expiring := rfl
@[simp] theorem handAccess_jobs (a : Access) : (handAccess a s).jobs = s.jobs := rfl
@[simp] theorem handAccess_boundary (a : Access) : (handAccess a s).boundary = s.boundary := rfl
@[simp] theorem handAccess_remembered (a : Access) : (handAccess a s).remembered = s.remembered := rfl
@[simp] theorem handAccess_run (a : Access) : (handAccess a s).run = s.run := rfl
@[simp] theorem handAccess_capture (a : Access) : (handAccess a s).capture = s.capture := rfl
@[simp] theorem handAccess_overrun (a : Access) : (handAccess a s).overrun = s.overrun := rfl
@[simp] theorem handAccess_flags (a : Access) : (handAccess a s).flags = s.flags := rfl
@[simp] theorem handAccess_enables (a : Access) : (handAccess a s).enables = s.enables := rfl
@[simp] theorem handAccess_raised (a : Access) : (handAccess a s).raised = s.raised := rfl
@[simp] theorem handAccess_heldResponse (a : Access) : (handAccess a s).heldResponse = s.heldResponse := rfl
@[simp] theorem handAccess_readPosition (a : Access) : (handAccess a s).readPosition = s.readPosition := rfl
@[simp] theorem handAccess_miso (a : Access) : (handAccess a s).miso = s.miso := rfl
@[simp] theorem handAccess_selectIgnored (a : Access) : (handAccess a s).selectIgnored = s.selectIgnored := rfl
@[simp] theorem handAccess_purgeHeld (a : Access) : (handAccess a s).purgeHeld = s.purgeHeld := rfl
@[simp] theorem handAccess_inReset (a : Access) : (handAccess a s).inReset = s.inReset := rfl

/-! ### putMerge -/

@[simp] theorem putMerge_pending (e : MergeEntry) : (putMerge e s).pending = s.pending := rfl
@[simp] theorem putMerge_upstream (e : MergeEntry) : (putMerge e s).upstream = s.upstream := rfl
@[simp] theorem putMerge_delivered (e : MergeEntry) : (putMerge e s).delivered = s.delivered := rfl
@[simp] theorem putMerge_pendingList (e : MergeEntry) : (putMerge e s).pendingList = s.pendingList := rfl
@[simp] theorem putMerge_taken (e : MergeEntry) : (putMerge e s).taken = s.taken := rfl
@[simp] theorem putMerge_lastSource (e : MergeEntry) : (putMerge e s).lastSource = s.lastSource := rfl
@[simp] theorem putMerge_waiting (e : MergeEntry) : (putMerge e s).waiting = s.waiting := rfl
@[simp] theorem putMerge_outstanding (e : MergeEntry) : (putMerge e s).outstanding = s.outstanding := rfl
@[simp] theorem putMerge_apertures (e : MergeEntry) : (putMerge e s).apertures = s.apertures := rfl
@[simp] theorem putMerge_masks (e : MergeEntry) : (putMerge e s).masks = s.masks := rfl
@[simp] theorem putMerge_unmapped (e : MergeEntry) : (putMerge e s).unmapped = s.unmapped := rfl
@[simp] theorem putMerge_idleLimit (e : MergeEntry) : (putMerge e s).idleLimit = s.idleLimit := rfl
@[simp] theorem putMerge_streams (e : MergeEntry) : (putMerge e s).streams = s.streams := rfl
@[simp] theorem putMerge_tracker (e : MergeEntry) : (putMerge e s).tracker = s.tracker := rfl
@[simp] theorem putMerge_services (e : MergeEntry) : (putMerge e s).services = s.services := rfl
@[simp] theorem putMerge_time (e : MergeEntry) : (putMerge e s).time = s.time := rfl
@[simp] theorem putMerge_tickOpen (e : MergeEntry) : (putMerge e s).tickOpen = s.tickOpen := rfl
@[simp] theorem putMerge_expiring (e : MergeEntry) : (putMerge e s).expiring = s.expiring := rfl
@[simp] theorem putMerge_jobs (e : MergeEntry) : (putMerge e s).jobs = s.jobs := rfl
@[simp] theorem putMerge_boundary (e : MergeEntry) : (putMerge e s).boundary = s.boundary := rfl
@[simp] theorem putMerge_remembered (e : MergeEntry) : (putMerge e s).remembered = s.remembered := rfl
@[simp] theorem putMerge_run (e : MergeEntry) : (putMerge e s).run = s.run := rfl
@[simp] theorem putMerge_capture (e : MergeEntry) : (putMerge e s).capture = s.capture := rfl
@[simp] theorem putMerge_overrun (e : MergeEntry) : (putMerge e s).overrun = s.overrun := rfl
@[simp] theorem putMerge_flags (e : MergeEntry) : (putMerge e s).flags = s.flags := rfl
@[simp] theorem putMerge_enables (e : MergeEntry) : (putMerge e s).enables = s.enables := rfl
@[simp] theorem putMerge_raised (e : MergeEntry) : (putMerge e s).raised = s.raised := rfl
@[simp] theorem putMerge_heldResponse (e : MergeEntry) : (putMerge e s).heldResponse = s.heldResponse := rfl
@[simp] theorem putMerge_readPosition (e : MergeEntry) : (putMerge e s).readPosition = s.readPosition := rfl
@[simp] theorem putMerge_miso (e : MergeEntry) : (putMerge e s).miso = s.miso := rfl
@[simp] theorem putMerge_selectIgnored (e : MergeEntry) : (putMerge e s).selectIgnored = s.selectIgnored := rfl
@[simp] theorem putMerge_purgeHeld (e : MergeEntry) : (putMerge e s).purgeHeld = s.purgeHeld := rfl
@[simp] theorem putMerge_inReset (e : MergeEntry) : (putMerge e s).inReset = s.inReset := rfl

/-! ### freeMerge -/

@[simp] theorem freeMerge_pending (b : Block) : (freeMerge b s).pending = s.pending := rfl
@[simp] theorem freeMerge_upstream (b : Block) : (freeMerge b s).upstream = s.upstream := rfl
@[simp] theorem freeMerge_delivered (b : Block) : (freeMerge b s).delivered = s.delivered := rfl
@[simp] theorem freeMerge_pendingList (b : Block) : (freeMerge b s).pendingList = s.pendingList := rfl
@[simp] theorem freeMerge_taken (b : Block) : (freeMerge b s).taken = s.taken := rfl
@[simp] theorem freeMerge_lastSource (b : Block) : (freeMerge b s).lastSource = s.lastSource := rfl
@[simp] theorem freeMerge_waiting (b : Block) : (freeMerge b s).waiting = s.waiting := rfl
@[simp] theorem freeMerge_outstanding (b : Block) : (freeMerge b s).outstanding = s.outstanding := rfl
@[simp] theorem freeMerge_apertures (b : Block) : (freeMerge b s).apertures = s.apertures := rfl
@[simp] theorem freeMerge_masks (b : Block) : (freeMerge b s).masks = s.masks := rfl
@[simp] theorem freeMerge_unmapped (b : Block) : (freeMerge b s).unmapped = s.unmapped := rfl
@[simp] theorem freeMerge_idleLimit (b : Block) : (freeMerge b s).idleLimit = s.idleLimit := rfl
@[simp] theorem freeMerge_streams (b : Block) : (freeMerge b s).streams = s.streams := rfl
@[simp] theorem freeMerge_tracker (b : Block) : (freeMerge b s).tracker = s.tracker := rfl
@[simp] theorem freeMerge_services (b : Block) : (freeMerge b s).services = s.services := rfl
@[simp] theorem freeMerge_time (b : Block) : (freeMerge b s).time = s.time := rfl
@[simp] theorem freeMerge_tickOpen (b : Block) : (freeMerge b s).tickOpen = s.tickOpen := rfl
@[simp] theorem freeMerge_expiring (b : Block) : (freeMerge b s).expiring = s.expiring := rfl
@[simp] theorem freeMerge_jobs (b : Block) : (freeMerge b s).jobs = s.jobs := rfl
@[simp] theorem freeMerge_boundary (b : Block) : (freeMerge b s).boundary = s.boundary := rfl
@[simp] theorem freeMerge_remembered (b : Block) : (freeMerge b s).remembered = s.remembered := rfl
@[simp] theorem freeMerge_run (b : Block) : (freeMerge b s).run = s.run := rfl
@[simp] theorem freeMerge_capture (b : Block) : (freeMerge b s).capture = s.capture := rfl
@[simp] theorem freeMerge_overrun (b : Block) : (freeMerge b s).overrun = s.overrun := rfl
@[simp] theorem freeMerge_flags (b : Block) : (freeMerge b s).flags = s.flags := rfl
@[simp] theorem freeMerge_enables (b : Block) : (freeMerge b s).enables = s.enables := rfl
@[simp] theorem freeMerge_raised (b : Block) : (freeMerge b s).raised = s.raised := rfl
@[simp] theorem freeMerge_heldResponse (b : Block) : (freeMerge b s).heldResponse = s.heldResponse := rfl
@[simp] theorem freeMerge_readPosition (b : Block) : (freeMerge b s).readPosition = s.readPosition := rfl
@[simp] theorem freeMerge_miso (b : Block) : (freeMerge b s).miso = s.miso := rfl
@[simp] theorem freeMerge_selectIgnored (b : Block) : (freeMerge b s).selectIgnored = s.selectIgnored := rfl
@[simp] theorem freeMerge_purgeHeld (b : Block) : (freeMerge b s).purgeHeld = s.purgeHeld := rfl
@[simp] theorem freeMerge_inReset (b : Block) : (freeMerge b s).inReset = s.inReset := rfl

/-! ### putJob -/

@[simp] theorem putJob_pending (j : JobNo) (v : JobSlot) : (putJob j v s).pending = s.pending := rfl
@[simp] theorem putJob_upstream (j : JobNo) (v : JobSlot) : (putJob j v s).upstream = s.upstream := rfl
@[simp] theorem putJob_delivered (j : JobNo) (v : JobSlot) : (putJob j v s).delivered = s.delivered := rfl
@[simp] theorem putJob_pendingList (j : JobNo) (v : JobSlot) : (putJob j v s).pendingList = s.pendingList := rfl
@[simp] theorem putJob_taken (j : JobNo) (v : JobSlot) : (putJob j v s).taken = s.taken := rfl
@[simp] theorem putJob_lastSource (j : JobNo) (v : JobSlot) : (putJob j v s).lastSource = s.lastSource := rfl
@[simp] theorem putJob_waiting (j : JobNo) (v : JobSlot) : (putJob j v s).waiting = s.waiting := rfl
@[simp] theorem putJob_outstanding (j : JobNo) (v : JobSlot) : (putJob j v s).outstanding = s.outstanding := rfl
@[simp] theorem putJob_apertures (j : JobNo) (v : JobSlot) : (putJob j v s).apertures = s.apertures := rfl
@[simp] theorem putJob_masks (j : JobNo) (v : JobSlot) : (putJob j v s).masks = s.masks := rfl
@[simp] theorem putJob_unmapped (j : JobNo) (v : JobSlot) : (putJob j v s).unmapped = s.unmapped := rfl
@[simp] theorem putJob_idleLimit (j : JobNo) (v : JobSlot) : (putJob j v s).idleLimit = s.idleLimit := rfl
@[simp] theorem putJob_mergeTable (j : JobNo) (v : JobSlot) : (putJob j v s).mergeTable = s.mergeTable := rfl
@[simp] theorem putJob_streams (j : JobNo) (v : JobSlot) : (putJob j v s).streams = s.streams := rfl
@[simp] theorem putJob_tracker (j : JobNo) (v : JobSlot) : (putJob j v s).tracker = s.tracker := rfl
@[simp] theorem putJob_services (j : JobNo) (v : JobSlot) : (putJob j v s).services = s.services := rfl
@[simp] theorem putJob_time (j : JobNo) (v : JobSlot) : (putJob j v s).time = s.time := rfl
@[simp] theorem putJob_tickOpen (j : JobNo) (v : JobSlot) : (putJob j v s).tickOpen = s.tickOpen := rfl
@[simp] theorem putJob_expiring (j : JobNo) (v : JobSlot) : (putJob j v s).expiring = s.expiring := rfl
@[simp] theorem putJob_boundary (j : JobNo) (v : JobSlot) : (putJob j v s).boundary = s.boundary := rfl
@[simp] theorem putJob_remembered (j : JobNo) (v : JobSlot) : (putJob j v s).remembered = s.remembered := rfl
@[simp] theorem putJob_run (j : JobNo) (v : JobSlot) : (putJob j v s).run = s.run := rfl
@[simp] theorem putJob_capture (j : JobNo) (v : JobSlot) : (putJob j v s).capture = s.capture := rfl
@[simp] theorem putJob_overrun (j : JobNo) (v : JobSlot) : (putJob j v s).overrun = s.overrun := rfl
@[simp] theorem putJob_flags (j : JobNo) (v : JobSlot) : (putJob j v s).flags = s.flags := rfl
@[simp] theorem putJob_enables (j : JobNo) (v : JobSlot) : (putJob j v s).enables = s.enables := rfl
@[simp] theorem putJob_raised (j : JobNo) (v : JobSlot) : (putJob j v s).raised = s.raised := rfl
@[simp] theorem putJob_heldResponse (j : JobNo) (v : JobSlot) : (putJob j v s).heldResponse = s.heldResponse := rfl
@[simp] theorem putJob_readPosition (j : JobNo) (v : JobSlot) : (putJob j v s).readPosition = s.readPosition := rfl
@[simp] theorem putJob_miso (j : JobNo) (v : JobSlot) : (putJob j v s).miso = s.miso := rfl
@[simp] theorem putJob_selectIgnored (j : JobNo) (v : JobSlot) : (putJob j v s).selectIgnored = s.selectIgnored := rfl
@[simp] theorem putJob_purgeHeld (j : JobNo) (v : JobSlot) : (putJob j v s).purgeHeld = s.purgeHeld := rfl
@[simp] theorem putJob_inReset (j : JobNo) (v : JobSlot) : (putJob j v s).inReset = s.inReset := rfl

/-! ### putService -/

@[simp] theorem putService_pending (i : ServiceNo) (v : Service) : (putService i v s).pending = s.pending := by unfold putService; dsimp only; split <;> simp
@[simp] theorem putService_upstream (i : ServiceNo) (v : Service) : (putService i v s).upstream = s.upstream := by unfold putService; dsimp only; split <;> simp
@[simp] theorem putService_delivered (i : ServiceNo) (v : Service) : (putService i v s).delivered = s.delivered := by unfold putService; dsimp only; split <;> simp
@[simp] theorem putService_pendingList (i : ServiceNo) (v : Service) : (putService i v s).pendingList = s.pendingList := by unfold putService; dsimp only; split <;> simp
@[simp] theorem putService_taken (i : ServiceNo) (v : Service) : (putService i v s).taken = s.taken := by unfold putService; dsimp only; split <;> simp
@[simp] theorem putService_lastSource (i : ServiceNo) (v : Service) : (putService i v s).lastSource = s.lastSource := by unfold putService; dsimp only; split <;> simp
@[simp] theorem putService_waiting (i : ServiceNo) (v : Service) : (putService i v s).waiting = s.waiting := by unfold putService; dsimp only; split <;> simp
@[simp] theorem putService_outstanding (i : ServiceNo) (v : Service) : (putService i v s).outstanding = s.outstanding := by unfold putService; dsimp only; split <;> simp
@[simp] theorem putService_apertures (i : ServiceNo) (v : Service) : (putService i v s).apertures = s.apertures := by unfold putService; dsimp only; split <;> simp
@[simp] theorem putService_masks (i : ServiceNo) (v : Service) : (putService i v s).masks = s.masks := by unfold putService; dsimp only; split <;> simp
@[simp] theorem putService_unmapped (i : ServiceNo) (v : Service) : (putService i v s).unmapped = s.unmapped := by unfold putService; dsimp only; split <;> simp
@[simp] theorem putService_idleLimit (i : ServiceNo) (v : Service) : (putService i v s).idleLimit = s.idleLimit := by unfold putService; dsimp only; split <;> simp
@[simp] theorem putService_mergeTable (i : ServiceNo) (v : Service) : (putService i v s).mergeTable = s.mergeTable := by unfold putService; dsimp only; split <;> simp
@[simp] theorem putService_streams (i : ServiceNo) (v : Service) : (putService i v s).streams = s.streams := by unfold putService; dsimp only; split <;> simp
@[simp] theorem putService_tracker (i : ServiceNo) (v : Service) : (putService i v s).tracker = s.tracker := by unfold putService; dsimp only; split <;> simp
@[simp] theorem putService_time (i : ServiceNo) (v : Service) : (putService i v s).time = s.time := by unfold putService; dsimp only; split <;> simp
@[simp] theorem putService_tickOpen (i : ServiceNo) (v : Service) : (putService i v s).tickOpen = s.tickOpen := by unfold putService; dsimp only; split <;> simp
@[simp] theorem putService_expiring (i : ServiceNo) (v : Service) : (putService i v s).expiring = s.expiring := by unfold putService; dsimp only; split <;> simp
@[simp] theorem putService_jobs (i : ServiceNo) (v : Service) : (putService i v s).jobs = s.jobs := by unfold putService; dsimp only; split <;> simp
@[simp] theorem putService_boundary (i : ServiceNo) (v : Service) : (putService i v s).boundary = s.boundary := by unfold putService; dsimp only; split <;> simp
@[simp] theorem putService_remembered (i : ServiceNo) (v : Service) : (putService i v s).remembered = s.remembered := by unfold putService; dsimp only; split <;> simp
@[simp] theorem putService_run (i : ServiceNo) (v : Service) : (putService i v s).run = s.run := by unfold putService; dsimp only; split <;> simp
@[simp] theorem putService_capture (i : ServiceNo) (v : Service) : (putService i v s).capture = s.capture := by unfold putService; dsimp only; split <;> simp
@[simp] theorem putService_overrun (i : ServiceNo) (v : Service) : (putService i v s).overrun = s.overrun := by unfold putService; dsimp only; split <;> simp
@[simp] theorem putService_enables (i : ServiceNo) (v : Service) : (putService i v s).enables = s.enables := by unfold putService; dsimp only; split <;> simp
@[simp] theorem putService_heldResponse (i : ServiceNo) (v : Service) : (putService i v s).heldResponse = s.heldResponse := by unfold putService; dsimp only; split <;> simp
@[simp] theorem putService_readPosition (i : ServiceNo) (v : Service) : (putService i v s).readPosition = s.readPosition := by unfold putService; dsimp only; split <;> simp
@[simp] theorem putService_miso (i : ServiceNo) (v : Service) : (putService i v s).miso = s.miso := by unfold putService; dsimp only; split <;> simp
@[simp] theorem putService_selectIgnored (i : ServiceNo) (v : Service) : (putService i v s).selectIgnored = s.selectIgnored := by unfold putService; dsimp only; split <;> simp
@[simp] theorem putService_purgeHeld (i : ServiceNo) (v : Service) : (putService i v s).purgeHeld = s.purgeHeld := by unfold putService; dsimp only; split <;> simp
@[simp] theorem putService_inReset (i : ServiceNo) (v : Service) : (putService i v s).inReset = s.inReset := by unfold putService; dsimp only; split <;> simp

/-! ### handBlock -/

@[simp] theorem handBlock_pending (r : Request) (b : Block) (op : Nat → Nat → Op) (h : Half → Handler) : (handBlock r b op h s).pending = s.pending := by unfold handBlock; dsimp only; split <;> rfl
@[simp] theorem handBlock_upstream (r : Request) (b : Block) (op : Nat → Nat → Op) (h : Half → Handler) : (handBlock r b op h s).upstream = s.upstream := by unfold handBlock; dsimp only; split <;> rfl
@[simp] theorem handBlock_delivered (r : Request) (b : Block) (op : Nat → Nat → Op) (h : Half → Handler) : (handBlock r b op h s).delivered = s.delivered := by unfold handBlock; dsimp only; split <;> rfl
@[simp] theorem handBlock_pendingList (r : Request) (b : Block) (op : Nat → Nat → Op) (h : Half → Handler) : (handBlock r b op h s).pendingList = s.pendingList := by unfold handBlock; dsimp only; split <;> rfl
@[simp] theorem handBlock_taken (r : Request) (b : Block) (op : Nat → Nat → Op) (h : Half → Handler) : (handBlock r b op h s).taken = s.taken := by unfold handBlock; dsimp only; split <;> rfl
@[simp] theorem handBlock_lastSource (r : Request) (b : Block) (op : Nat → Nat → Op) (h : Half → Handler) : (handBlock r b op h s).lastSource = s.lastSource := by unfold handBlock; dsimp only; split <;> rfl
@[simp] theorem handBlock_outstanding (r : Request) (b : Block) (op : Nat → Nat → Op) (h : Half → Handler) : (handBlock r b op h s).outstanding = s.outstanding := by unfold handBlock; dsimp only; split <;> rfl
@[simp] theorem handBlock_apertures (r : Request) (b : Block) (op : Nat → Nat → Op) (h : Half → Handler) : (handBlock r b op h s).apertures = s.apertures := by unfold handBlock; dsimp only; split <;> rfl
@[simp] theorem handBlock_masks (r : Request) (b : Block) (op : Nat → Nat → Op) (h : Half → Handler) : (handBlock r b op h s).masks = s.masks := by unfold handBlock; dsimp only; split <;> rfl
@[simp] theorem handBlock_unmapped (r : Request) (b : Block) (op : Nat → Nat → Op) (h : Half → Handler) : (handBlock r b op h s).unmapped = s.unmapped := by unfold handBlock; dsimp only; split <;> rfl
@[simp] theorem handBlock_idleLimit (r : Request) (b : Block) (op : Nat → Nat → Op) (h : Half → Handler) : (handBlock r b op h s).idleLimit = s.idleLimit := by unfold handBlock; dsimp only; split <;> rfl
@[simp] theorem handBlock_mergeTable (r : Request) (b : Block) (op : Nat → Nat → Op) (h : Half → Handler) : (handBlock r b op h s).mergeTable = s.mergeTable := by unfold handBlock; dsimp only; split <;> rfl
@[simp] theorem handBlock_streams (r : Request) (b : Block) (op : Nat → Nat → Op) (h : Half → Handler) : (handBlock r b op h s).streams = s.streams := by unfold handBlock; dsimp only; split <;> rfl
@[simp] theorem handBlock_tracker (r : Request) (b : Block) (op : Nat → Nat → Op) (h : Half → Handler) : (handBlock r b op h s).tracker = s.tracker := by unfold handBlock; dsimp only; split <;> rfl
@[simp] theorem handBlock_services (r : Request) (b : Block) (op : Nat → Nat → Op) (h : Half → Handler) : (handBlock r b op h s).services = s.services := by unfold handBlock; dsimp only; split <;> rfl
@[simp] theorem handBlock_time (r : Request) (b : Block) (op : Nat → Nat → Op) (h : Half → Handler) : (handBlock r b op h s).time = s.time := by unfold handBlock; dsimp only; split <;> rfl
@[simp] theorem handBlock_tickOpen (r : Request) (b : Block) (op : Nat → Nat → Op) (h : Half → Handler) : (handBlock r b op h s).tickOpen = s.tickOpen := by unfold handBlock; dsimp only; split <;> rfl
@[simp] theorem handBlock_expiring (r : Request) (b : Block) (op : Nat → Nat → Op) (h : Half → Handler) : (handBlock r b op h s).expiring = s.expiring := by unfold handBlock; dsimp only; split <;> rfl
@[simp] theorem handBlock_jobs (r : Request) (b : Block) (op : Nat → Nat → Op) (h : Half → Handler) : (handBlock r b op h s).jobs = s.jobs := by unfold handBlock; dsimp only; split <;> rfl
@[simp] theorem handBlock_boundary (r : Request) (b : Block) (op : Nat → Nat → Op) (h : Half → Handler) : (handBlock r b op h s).boundary = s.boundary := by unfold handBlock; dsimp only; split <;> rfl
@[simp] theorem handBlock_remembered (r : Request) (b : Block) (op : Nat → Nat → Op) (h : Half → Handler) : (handBlock r b op h s).remembered = s.remembered := by unfold handBlock; dsimp only; split <;> rfl
@[simp] theorem handBlock_run (r : Request) (b : Block) (op : Nat → Nat → Op) (h : Half → Handler) : (handBlock r b op h s).run = s.run := by unfold handBlock; dsimp only; split <;> rfl
@[simp] theorem handBlock_capture (r : Request) (b : Block) (op : Nat → Nat → Op) (h : Half → Handler) : (handBlock r b op h s).capture = s.capture := by unfold handBlock; dsimp only; split <;> rfl
@[simp] theorem handBlock_overrun (r : Request) (b : Block) (op : Nat → Nat → Op) (h : Half → Handler) : (handBlock r b op h s).overrun = s.overrun := by unfold handBlock; dsimp only; split <;> rfl
@[simp] theorem handBlock_flags (r : Request) (b : Block) (op : Nat → Nat → Op) (h : Half → Handler) : (handBlock r b op h s).flags = s.flags := by unfold handBlock; dsimp only; split <;> rfl
@[simp] theorem handBlock_enables (r : Request) (b : Block) (op : Nat → Nat → Op) (h : Half → Handler) : (handBlock r b op h s).enables = s.enables := by unfold handBlock; dsimp only; split <;> rfl
@[simp] theorem handBlock_raised (r : Request) (b : Block) (op : Nat → Nat → Op) (h : Half → Handler) : (handBlock r b op h s).raised = s.raised := by unfold handBlock; dsimp only; split <;> rfl
@[simp] theorem handBlock_heldResponse (r : Request) (b : Block) (op : Nat → Nat → Op) (h : Half → Handler) : (handBlock r b op h s).heldResponse = s.heldResponse := by unfold handBlock; dsimp only; split <;> rfl
@[simp] theorem handBlock_readPosition (r : Request) (b : Block) (op : Nat → Nat → Op) (h : Half → Handler) : (handBlock r b op h s).readPosition = s.readPosition := by unfold handBlock; dsimp only; split <;> rfl
@[simp] theorem handBlock_miso (r : Request) (b : Block) (op : Nat → Nat → Op) (h : Half → Handler) : (handBlock r b op h s).miso = s.miso := by unfold handBlock; dsimp only; split <;> rfl
@[simp] theorem handBlock_selectIgnored (r : Request) (b : Block) (op : Nat → Nat → Op) (h : Half → Handler) : (handBlock r b op h s).selectIgnored = s.selectIgnored := by unfold handBlock; dsimp only; split <;> rfl
@[simp] theorem handBlock_purgeHeld (r : Request) (b : Block) (op : Nat → Nat → Op) (h : Half → Handler) : (handBlock r b op h s).purgeHeld = s.purgeHeld := by unfold handBlock; dsimp only; split <;> rfl
@[simp] theorem handBlock_inReset (r : Request) (b : Block) (op : Nat → Nat → Op) (h : Half → Handler) : (handBlock r b op h s).inReset = s.inReset := by unfold handBlock; dsimp only; split <;> rfl

end Sys2Proof.Machine
end

