-- ==== Sys2Proof/Laws/Changes.lean ====
section
/-! SUPPORT. What each shared operation can change. A relation names the fields it may change; each
operation has one lemma that puts it in a relation, which later proofs cite instead of unfolding it. -/

namespace Sys2Proof.Machine

variable {s t u : State}

theorem ByReport.refl (s : State) : ByReport s s := ⟨_, _, _, _, rfl⟩
theorem ByReport.trans : ByReport s t → ByReport t u → ByReport s u := by
  rintro ⟨_, _, _, _, rfl⟩ ⟨_, _, _, _, rfl⟩; exact ⟨_, _, _, _, rfl⟩

theorem ByJobs.refl (s : State) : ByJobs s s := ⟨_, _, _, _, _, _, _, rfl⟩
theorem ByJobs.trans : ByJobs s t → ByJobs t u → ByJobs s u := by
  rintro ⟨_, _, _, _, _, _, _, rfl⟩ ⟨_, _, _, _, _, _, _, rfl⟩; exact ⟨_, _, _, _, _, _, _, rfl⟩
theorem ByReport.jobs : ByReport s t → ByJobs s t := by
  rintro ⟨_, _, _, _, rfl⟩; exact ⟨_, _, _, _, _, _, _, rfl⟩

theorem ByKeys.refl (s : State) : ByKeys s s := ⟨_, _, _, _, _, rfl⟩
theorem ByKeys.trans : ByKeys s t → ByKeys t u → ByKeys s u := by
  rintro ⟨_, _, _, _, _, rfl⟩ ⟨_, _, _, _, _, rfl⟩; exact ⟨_, _, _, _, _, rfl⟩
theorem ByReport.keys : ByReport s t → ByKeys s t := by
  rintro ⟨_, _, _, _, rfl⟩; exact ⟨_, _, _, _, _, rfl⟩

theorem ByFlip.refl (s : State) : ByFlip s s := ⟨_, _, _, _, _, _, _, _, rfl⟩
theorem ByFlip.trans : ByFlip s t → ByFlip t u → ByFlip s u := by
  rintro ⟨_, _, _, _, _, _, _, _, rfl⟩ ⟨_, _, _, _, _, _, _, _, rfl⟩
  exact ⟨_, _, _, _, _, _, _, _, rfl⟩
theorem ByKeys.flip : ByKeys s t → ByFlip s t := by
  rintro ⟨_, _, _, _, _, rfl⟩; exact ⟨_, _, _, _, _, _, _, _, rfl⟩
theorem ByJobs.flip : ByJobs s t → ByFlip s t := by
  rintro ⟨_, _, _, _, _, _, _, rfl⟩; exact ⟨_, _, _, _, _, _, _, _, rfl⟩

theorem ByTracker.refl (s : State) : ByTracker s s := ⟨_, _, _, _, _, _, rfl⟩
theorem ByTracker.trans : ByTracker s t → ByTracker t u → ByTracker s u := by
  rintro ⟨_, _, _, _, _, _, rfl⟩ ⟨_, _, _, _, _, _, rfl⟩; exact ⟨_, _, _, _, _, _, rfl⟩
theorem ByKeys.tracker : ByKeys s t → ByTracker s t := by
  rintro ⟨_, _, _, _, _, rfl⟩; exact ⟨_, _, _, _, _, _, rfl⟩

theorem ByPath.refl (s : State) : ByPath s s :=
  ⟨rfl, fun _ => rfl, _, _, _, _, _, _, _, _, _, _, rfl⟩
theorem ByPath.trans : ByPath s t → ByPath t u → ByPath s u := by
  rintro ⟨h1, h2, _, _, _, _, _, _, _, _, _, _, rfl⟩ ⟨h3, h4, _, _, _, _, _, _, _, _, _, _, rfl⟩
  exact ⟨h3.trans h1, fun i => (h4 i).trans (h2 i), _, _, _, _, _, _, _, _, _, _, rfl⟩
theorem ByTracker.path : ByTracker s t → ByPath s t := by
  rintro ⟨_, _, _, _, _, _, rfl⟩
  exact ⟨rfl, fun _ => rfl, _, _, _, _, _, _, _, _, _, _, rfl⟩
theorem ByReport.path (h : ByReport s t) : ByPath s t := h.keys.tracker.path

theorem ByTick.refl (s : State) : ByTick s s := ⟨_, _, _, _, _, _, _, _, _, _, _, _, rfl⟩
theorem ByTick.trans : ByTick s t → ByTick t u → ByTick s u := by
  rintro ⟨_, _, _, _, _, _, _, _, _, _, _, _, rfl⟩ ⟨_, _, _, _, _, _, _, _, _, _, _, _, rfl⟩
  exact ⟨_, _, _, _, _, _, _, _, _, _, _, _, rfl⟩
theorem ByFlip.tick : ByFlip s t → ByTick s t := by
  rintro ⟨_, _, _, _, _, _, _, _, rfl⟩; exact ⟨_, _, _, _, _, _, _, _, _, _, _, _, rfl⟩
theorem ByTracker.tick : ByTracker s t → ByTick s t := by
  rintro ⟨_, _, _, _, _, _, rfl⟩; exact ⟨_, _, _, _, _, _, _, _, _, _, _, _, rfl⟩

/-- A relation that holds of each step of a fold, is reflexive and is transitive holds of the fold. -/
theorem fold_changes {α : Type} {R : State → State → Prop} (f : State → α → State)
    (refl : ∀ s, R s s) (trans : ∀ s t u, R s t → R t u → R s u) (h : ∀ s a, R s (f s a)) :
    ∀ (l : List α) (s : State), R s (l.foldl f s)
  | [], s => refl s
  | a :: l, s => trans _ _ _ (h s a) (fold_changes f refl trans h l (f s a))

/-! ### Reports -/

theorem setCause_changes (c : Cause) (s : State) : ByReport s (setCause c s) := by
  unfold setCause; dsimp only; split <;> exact ⟨_, _, _, _, rfl⟩

theorem offer_changes (r : CaptureRecord) (s : State) : ByReport s (offer r s) := by
  unfold offer; dsimp only
  split
  · split
    · exact ByReport.trans ⟨_, _, _, _, rfl⟩ (setCause_changes _ _)
    · exact ⟨_, _, _, _, rfl⟩
  · exact ByReport.trans ⟨_, _, _, _, rfl⟩ (setCause_changes _ _)

theorem memoryFault_changes (i : Initiator) (a : Option ApertureNo) (r : Request) (s : State) :
    ByReport s (memoryFault i a r s) := (offer_changes _ _).trans (setCause_changes _ _)

theorem entryFault_changes (e : PendingEntry) (r : Request) (s : State) : ByReport s (entryFault e r s) :=
  memoryFault_changes _ _ _ _

/-! ### Jobs -/

theorem putJob_changes (j : JobNo) (v : JobSlot) (s : State) : ByJobs s (putJob j v s) :=
  ⟨_, _, _, _, _, _, _, rfl⟩

theorem startRun_changes (j : JobNo) (s : State) : ByJobs s (startRun j s) := ⟨_, _, _, _, _, _, _, rfl⟩

theorem present_changes (j : JobNo) (p : JobPhase × Request) (s : State) : ByJobs s (present j p s) :=
  ⟨_, _, _, _, _, _, _, rfl⟩

theorem select_changes (s : State) : ByJobs s (select s) := by
  unfold select
  repeat' split
  · exact startRun_changes _ _
  · exact ByJobs.trans ⟨_, _, _, _, _, _, _, rfl⟩ (startRun_changes _ _)
  · exact ByJobs.refl s
  · exact ByJobs.refl s

theorem triggerSlot_changes (j : JobNo) (s : State) : ByJobs s (triggerSlot j s) := by
  unfold triggerSlot; dsimp only
  split
  · exact putJob_changes _ _ _
  · exact (putJob_changes _ _ _).trans (setCause_changes _ _).jobs
  · exact (putJob_changes _ _ _).trans (setCause_changes _ _).jobs
  · exact (putJob_changes _ _ _).trans (setCause_changes _ _).jobs
  · exact ByJobs.refl s

theorem deliver_changes (t : Trigger) (s : State) : ByJobs s (deliver t s) :=
  fold_changes _ ByJobs.refl (fun _ _ _ => ByJobs.trans)
    (fun s j => by split; exacts [triggerSlot_changes _ _, ByJobs.refl s]) _ s

theorem endRun_changes (j : JobNo) (st : JobStatus) (f : Option (Status × Addr)) (s : State) :
    ByJobs s (endRun j st f s) := ⟨_, _, _, _, _, _, _, rfl⟩

theorem abortRun_changes (j : JobNo) (s : State) : ByJobs s (abortRun j s) :=
  (endRun_changes _ _ _ _).trans (setCause_changes _ _).jobs

theorem completeRun_changes (j : JobNo) (s : State) : ByJobs s (completeRun j s) :=
  (((endRun_changes _ _ _ _).trans (setCause_changes _ _).jobs).trans (deliver_changes _ _)).trans
    (select_changes _)

theorem faultRun_changes (j : JobNo) (st : Status) (r : Request) (a : Option ApertureNo) (s : State) :
    ByJobs s (faultRun j st r a s) :=
  (((endRun_changes _ _ _ _).trans (offer_changes _ _).jobs).trans (setCause_changes _ _).jobs).trans
    (select_changes _)

theorem suspendRun_changes (j : JobNo) (s : State) : ByJobs s (suspendRun j s) :=
  ByJobs.trans ⟨_, _, _, _, _, _, _, rfl⟩ (select_changes _)

theorem stoppingPoint_changes (j : JobNo) (n : State → JobPhase × Request) (s : State) :
    ByJobs s (stoppingPoint j n s) := by
  unfold stoppingPoint; dsimp only
  repeat' split
  · exact completeRun_changes _ _
  · exact (abortRun_changes _ _).trans (select_changes _)
  · exact suspendRun_changes _ _
  · exact present_changes _ _ _

theorem advance_changes (j : JobNo) (n : Nat) (s : State) : ByJobs s (advance j n s) :=
  putJob_changes _ _ _

theorem jobDone_changes (r : JobRun) (d : List Word) (s : State) : ByJobs s (jobDone r d s) := by
  unfold jobDone; dsimp only
  split
  · exact (advance_changes _ _ _).trans (stoppingPoint_changes _ _ _)
  · exact (advance_changes _ _ _).trans (stoppingPoint_changes _ _ _)
  · exact ((putJob_changes _ _ _).trans (advance_changes _ _ _)).trans (stoppingPoint_changes _ _ _)
  · exact stoppingPoint_changes _ _ _
  · exact stoppingPoint_changes _ _ _
  · repeat' split
    · exact stoppingPoint_changes _ _ _
    · exact suspendRun_changes _ _
    · exact (advance_changes _ _ _).trans (stoppingPoint_changes _ _ _)
  · exact present_changes _ _ _
  · exact ((putJob_changes _ _ _).trans (advance_changes _ _ _)).trans (stoppingPoint_changes _ _ _)

theorem jobResponse_changes (st : Status) (d : List Word) (a : Option ApertureNo) (s : State) :
    ByJobs s (jobResponse st d a s) := by
  unfold jobResponse
  repeat' split
  · exact ByJobs.refl s
  · exact jobDone_changes _ _ _
  · exact faultRun_changes _ _ _ _ _
  · exact faultRun_changes _ _ _ _ _
  · exact abortRun_changes _ _

theorem windowCloses_changes (s : State) : ByJobs s (windowCloses s) := by
  unfold windowCloses
  repeat' split
  · exact ByJobs.refl s
  · exact suspendRun_changes _ _
  · exact ByJobs.refl s

theorem resetJobs_changes (s : State) : ByJobs s (resetJobs s) := by
  unfold resetJobs; dsimp only
  refine ByJobs.trans (t := match s.run with | none => s | some r => abortRun r.slot s) ?_ ?_
  · split
    · exact ByJobs.refl s
    · exact abortRun_changes _ _
  · refine fold_changes _ ByJobs.refl (fun _ _ _ => ByJobs.trans) (fun s j => ?_) _ _
    split
    all_goals first | exact putJob_changes _ _ _ | exact ByJobs.refl s

/-! ### Keys -/

theorem putService_changes (i : ServiceNo) (v : Service) (s : State) : ByKeys s (putService i v s) := by
  unfold putService; dsimp only; split
  · exact ByKeys.trans ⟨_, _, _, _, _, rfl⟩ (setCause_changes _ _).keys
  · exact ⟨_, _, _, _, _, rfl⟩

theorem retire_changes (i : ServiceNo) (p : Phase) (s : State) : ByKeys s (retire i p s) := by
  unfold retire; dsimp only; split; exacts [putService_changes _ _ _, ByKeys.refl s]

theorem retireBoth_changes (i : ServiceNo) (s : State) : ByKeys s (retireBoth i s) :=
  (retire_changes _ _ _).trans (retire_changes _ _ _)

theorem flipService_changes (i : ServiceNo) (s : State) : ByFlip s (flipService i s) := by
  unfold flipService; split
  · exact ByFlip.refl s
  · exact (putService_changes _ _ _).flip.trans ((deliver_changes _ _).trans (select_changes _)).flip

theorem expire_changes (i : ServiceNo) (s : State) : ByFlip s (expire i s) := by
  unfold expire; dsimp only
  repeat' split
  · exact ByFlip.refl s
  · exact flipService_changes _ _
  · exact ((putService_changes _ _ _).trans (setCause_changes _ _).keys).flip
  · exact ((putService_changes _ _ _).trans (setCause_changes _ _).keys).flip

theorem afterLoad_changes (i : ServiceNo) (p : Phase) (s : State) : ByFlip s (afterLoad i p s) := by
  unfold afterLoad; dsimp only
  split
  all_goals first
    | exact flipService_changes _ _
    | exact (putService_changes _ _ _).flip
    | exact ByFlip.refl s

theorem purgeKeys_changes (s : State) : ByKeys s (purgeKeys s) := by
  unfold purgeKeys; dsimp only
  have h : ByKeys s (setCause .purged
      { s with services := Vector.ofFn fun i : Fin 24 => purgedService s.services[i] }) :=
    ByKeys.trans ⟨_, _, _, _, _, rfl⟩ (setCause_changes _ _).keys
  split
  · exact h.trans (setCause_changes _ _).keys
  · exact h

/-! ### Tracker -/

theorem addUser_changes (i : ServiceNo) (p : Phase) (s : State) : ByKeys s (addUser i p s) :=
  putService_changes _ _ _

theorem dropUser_changes (i : ServiceNo) (p : Phase) (s : State) : ByKeys s (dropUser i p s) :=
  (putService_changes _ _ _).trans (retire_changes _ _ _)

theorem takeUse_changes (d : Disposition) (s : State) : ByKeys s (takeUse d s) := by
  unfold takeUse; split
  all_goals first | exact addUser_changes _ _ _ | exact ByKeys.refl s

theorem dropUse_changes (d : Disposition) (s : State) : ByKeys s (dropUse d s) := by
  unfold dropUse; split
  all_goals first | exact dropUser_changes _ _ _ | exact ByKeys.refl s

theorem closeEntry_changes (e : TrackerEntry) (s : State) : ByTracker s (closeEntry e s) :=
  ByTracker.trans ⟨_, _, _, _, _, _, rfl⟩ (dropUse_changes _ _).tracker

theorem abandon_changes (r : CloseReason) (e : TrackerEntry) (s : State) : ByTracker s (abandon r e s) :=
  (offer_changes _ _).keys.tracker.trans (closeEntry_changes _ _)

theorem abandonAll_changes (r : CloseReason) (es : List TrackerEntry) (s : State) :
    ByTracker s (abandonAll r es s) :=
  fold_changes _ ByTracker.refl (fun _ _ _ => ByTracker.trans) (fun _ _ => abandon_changes _ _ _) _ s

theorem abandonWhere_changes (r : CloseReason) (test : TrackerEntry → Bool) (s : State) :
    ByTracker s (abandonWhere r test s) := abandonAll_changes _ _ _

/-- Entries closed as abandoned give their records with the tick count of the start (R94). -/
theorem abandonAll_eq_closedAsAbandoned (r : CloseReason) (es : List TrackerEntry) (s : State) :
    abandonAll r es s = closedAsAbandoned r es s := by
  suffices h : ∀ t : State, t.time.tickCount = s.time.tickCount →
      abandonAll r es t = es.foldl (fun t e => closeEntry e (offer
        ⟨.abandoned, e.initiator, .write, e.slot, s.time.tickCount.setWidth 16, some e.aperture,
          if e.disposition = .null then none else some e.pid,
          match e.disposition with | .scramble i _ => some i | .clear | .pass | .null => none,
          some r, none⟩ t)) t from h s rfl
  induction es with
  | nil => exact fun _ _ => rfl
  | cons e es ih =>
    intro t h
    have hk : (abandon r e t).time.tickCount = s.time.tickCount := by
      obtain ⟨_, _, _, _, _, _, hh⟩ := abandon_changes r e t
      rw [hh]; exact h
    simp only [abandonAll, List.foldl_cons] at ih ⊢
    rw [ih _ hk]
    congr 1
    unfold abandon abandonedRecord plainRecord stampOf
    rw [h]; rfl

theorem supersede_changes (a : Addr) (s : State) : ByTracker s (supersede a s) := by
  unfold supersede; split; exacts [closeEntry_changes _ _, ByTracker.refl s]

theorem makeRoom_changes (s : State) : ByTracker s (makeRoom s) := by
  unfold makeRoom
  repeat' split
  · exact ByTracker.refl s
  · exact abandon_changes _ _ _
  · exact ByTracker.refl s

theorem openEntry_changes (e : TrackerEntry) (s : State) : ByTracker s (openEntry e s) :=
  (((supersede_changes _ _).trans (makeRoom_changes _)).trans
    (⟨_, _, _, _, _, _, rfl⟩ : ByTracker _ { makeRoom (supersede e.slot s) with
      tracker := (makeRoom (supersede e.slot s)).tracker ++ [e] })).trans (takeUse_changes _ _).tracker

theorem markWords_changes (a : Addr) (first n : Nat) (s : State) : ByTracker s (markWords a first n s) := by
  unfold markWords; dsimp only
  repeat' split
  · exact ByTracker.refl s
  · exact closeEntry_changes _ _
  · exact ⟨_, _, _, _, _, _, rfl⟩

theorem keyPurge_changes (s : State) : ByTracker s (keyPurge s) :=
  (abandonWhere_changes _ _ _).trans (purgeKeys_changes _).tracker

theorem emptyTracker_changes (s : State) : ByTracker s (emptyTracker s) :=
  ByTracker.trans ⟨_, _, _, _, _, _, rfl⟩
    (fold_changes _ ByTracker.refl (fun _ _ _ => ByTracker.trans)
      (fun _ _ => (retireBoth_changes _ _).tracker) _ _)

/-! ### Packets -/

theorem updateSegment_changes (ref : SegRef) (f : Segment → Segment) (s : State) :
    ByPath s (updateSegment ref f s) := by
  refine ⟨?_, fun _ => rfl, _, _, _, _, _, _, _, _, _, _, rfl⟩
  simp only [updateSegment, List.map_map]
  refine List.map_congr_left fun e _ => ?_
  simp only [Function.comp]; split <;> rfl

theorem setWork_changes (ref : SegRef) (w : SegWork) (s : State) : ByPath s (setWork ref w s) :=
  updateSegment_changes _ _ _

theorem finishSegment_changes (ref : SegRef) (st : SegState) (d : List Word) (s : State) :
    ByPath s (finishSegment ref st d s) := updateSegment_changes _ _ _

theorem handAccess_changes (a : Access) (s : State) : ByPath s (handAccess a s) :=
  ⟨rfl, fun _ => rfl, _, _, _, _, _, _, _, _, _, _, rfl⟩

theorem countPacket_changes (d : Decision) (s : State) : ByKeys s (countPacket d s) := by
  unfold countPacket; split
  all_goals exact ⟨_, _, _, _, _, rfl⟩

theorem handOpening_changes (p : PendingEntry) (n : ApertureNo) (un : ClearOrNull) (ref : SegRef)
    (g : Segment) (a : Addr) (ws : List WriteWord) (s : State) :
    ByPath s (handOpening p n un ref g a ws s) := by
  unfold handOpening handPacketWrite; dsimp only
  refine (ByTracker.path ?_).trans (handAccess_changes _ _)
  refine ByTracker.trans ?_ (openEntry_changes _ _)
  split
  · exact ((countPacket_changes _ _).trans (offer_changes _ _).keys).tracker
  · exact (countPacket_changes _ _).tracker

theorem handContinuation_changes (p : PendingEntry) (n : ApertureNo) (ref : SegRef) (g : Segment)
    (a : Addr) (first : Nat) (ws : List WriteWord) (s : State) :
    ByPath s (handContinuation p n ref g a first ws s) := by
  unfold handContinuation; split
  · exact (offer_changes _ _).path.trans (finishSegment_changes _ _ _ _)
  · exact (handAccess_changes _ _).trans (markWords_changes _ _ _ _).path

theorem handPacketRead_changes (p : PendingEntry) (ref : SegRef) (g : Segment) (s : State) :
    ByPath s (handPacketRead p ref g s) := handAccess_changes _ _

theorem handClearRead_changes (p : PendingEntry) (ref : SegRef) (g : Segment) (a : Addr) (first : Nat)
    (s : State) : ByPath s (handClearRead p ref g a first s) := by
  unfold handClearRead
  repeat' split
  all_goals exact (setWork_changes _ _ _).trans (handAccess_changes _ _)

theorem handPacket_changes (p : PendingEntry) (ref : SegRef) (g : Segment) (a : Addr) (first : Nat)
    (s : State) : ByPath s (handPacket p ref g a first s) := by
  unfold handPacket
  repeat' split
  · exact handOpening_changes _ _ _ _ _ _ _ _
  · exact handContinuation_changes _ _ _ _ _ _ _ _
  · exact handClearRead_changes _ _ _ _ _ _
  · exact handPacketRead_changes _ _ _ _
  · exact ByPath.refl s

theorem settleHeader_changes (p : PendingEntry) (g : Segment) (w0 w1 : Word) (s : State) :
    ByPath s (settleHeader p g w0 w1 s).2 := by
  unfold settleHeader; dsimp only; split
  · exact ByPath.refl s
  · exact (offer_changes _ _).path

theorem answerPlain_changes (p : PendingEntry) (g : Segment) (ref : SegRef) (r : Request) (a : Answer)
    (s : State) : ByPath s (answerPlain p g ref r a s) := by
  unfold answerPlain; split
  · exact (entryFault_changes _ _ _).path.trans (finishSegment_changes _ _ _ _)
  · exact finishSegment_changes _ _ _ _
  · exact finishSegment_changes _ _ _ _

theorem answerClear_changes (p : PendingEntry) (g : Segment) (ref : SegRef) (plan : ClearPlan)
    (r : Request) (a : Answer) (s : State) : ByPath s (answerClear p g ref plan r a s) := by
  unfold answerClear; dsimp only; split
  · exact (entryFault_changes _ _ _).path.trans (finishSegment_changes _ _ _ _)
  · split
    · exact (settleHeader_changes _ _ _ _ _).trans (finishSegment_changes _ _ _ _)
    all_goals exact finishSegment_changes _ _ _ _
  · exact finishSegment_changes _ _ _ _

theorem answerHeader_changes (p : PendingEntry) (g : Segment) (ref : SegRef) (r : Request) (a : Answer)
    (s : State) : ByPath s (answerHeader p g ref r a s) := by
  unfold answerHeader; dsimp only; split
  · exact (entryFault_changes _ _ _).path.trans (finishSegment_changes _ _ _ _)
  · exact ((settleHeader_changes _ _ _ _ _).trans (setWork_changes _ _ _)).trans
      (handPacketRead_changes _ _ _ _)

/-! ### The merge table -/

theorem handBlock_changes (r : Request) (b : Block) (op : Nat → Nat → Op) (h : Half → Handler)
    (s : State) : ByPath s (handBlock r b op h s) := by
  unfold handBlock; dsimp only; split
  all_goals exact ⟨rfl, fun _ => rfl, _, _, _, _, _, _, _, _, _, _, rfl⟩

theorem handBlockRead_changes (r : Request) (b : Block) (h : Half → Handler) (s : State) :
    ByPath s (handBlockRead r b h s) := handBlock_changes _ _ _ _ _

theorem handBlockWrite_changes (r : Request) (b : Block) (ws : List Word) (h : Half → Handler)
    (s : State) : ByPath s (handBlockWrite r b ws h s) := handBlock_changes _ _ _ _ _

theorem setMergeTable_changes (m : List MergeEntry) (s : State) : ByPath s { s with mergeTable := m } :=
  ⟨rfl, fun _ => rfl, _, _, _, _, _, _, _, _, _, _, rfl⟩

theorem putMerge_changes (e : MergeEntry) (s : State) : ByPath s (putMerge e s) :=
  ⟨rfl, fun _ => rfl, _, _, _, _, _, _, _, _, _, _, rfl⟩

theorem freeMerge_changes (b : Block) (s : State) : ByPath s (freeMerge b s) :=
  ⟨rfl, fun _ => rfl, _, _, _, _, _, _, _, _, _, _, rfl⟩

theorem setAperture_changes (i : ApertureNo) (b : Aperture) (s : State)
    (hb : uncounted b = uncounted s.apertures[i]) : ByPath s { s with apertures := s.apertures.set i b } := by
  refine ⟨rfl, fun k => ?_, _, _, _, _, _, _, _, _, _, _, rfl⟩
  by_cases hk : i = k
  · subst hk; simpa using hb
  · have : i.val ≠ k.val := fun e => hk (Fin.ext e)
    simp [Vector.getElem_set_ne, this]

theorem addSaturated_changes (i : ApertureNo) (n : Nat) (s : State) : ByPath s (addSaturated i n s) := by
  unfold addSaturated; dsimp only; split
  · refine ByPath.trans (setAperture_changes i _ s ?_) (setCause_changes _ _).path; rfl
  · refine setAperture_changes i _ s ?_; rfl

theorem fetchMerge_changes (e : MergeEntry) (id : Nat) (s : State) : ByPath s (fetchMerge e id s) := by
  unfold fetchMerge; dsimp only; split
  · exact putMerge_changes _ _
  · exact (putMerge_changes _ _).trans (handBlockRead_changes _ _ _ _)

theorem writeMerge_changes (e : MergeEntry) (p : PendingEntry) (v : Stored) (s : State) :
    ByPath s (writeMerge e p v s) := (putMerge_changes _ _).trans (handBlockWrite_changes _ _ _ _ _)

theorem carryOut_changes (e : MergeEntry) (ref : SegRef) (s : State) : ByPath s (carryOut e ref s) := by
  unfold carryOut; dsimp only
  repeat' split
  all_goals first
    | exact putMerge_changes _ _
    | exact (putMerge_changes _ _).trans (finishSegment_changes _ _ _ _)
    | exact fetchMerge_changes _ _ _
    | exact (addSaturated_changes _ _ _).trans (writeMerge_changes _ _ _ _)

theorem park_changes (e : MergeEntry) (ref : SegRef) (s : State) : ByPath s (park e ref s) :=
  (putMerge_changes _ _).trans (setWork_changes _ _ _)

theorem directRead_changes (p : PendingEntry) (b : Block) (ref : SegRef) (s : State) :
    ByPath s (directRead p b ref s) := (setWork_changes _ _ _).trans (handBlockRead_changes _ _ _ _)

theorem directWrite_changes (p : PendingEntry) (c : SampleCopy) (b : Block) (ref : SegRef)
    (ws : List WriteWord) (s : State) : ByPath s (directWrite p c b ref ws s) :=
  ((addSaturated_changes _ _ _).trans (setWork_changes _ _ _)).trans (handBlockWrite_changes _ _ _ _ _)

theorem makeEntry_changes (p : PendingEntry) (b : Block) (n : ApertureNo) (ref : SegRef) (s : State) :
    ByPath s (makeEntry p b n ref s) :=
  ((setMergeTable_changes _ _).trans (setWork_changes _ _ _)).trans (handBlockRead_changes _ _ _ _)

theorem handSample_changes (ref : SegRef) (s : State) : ByPath s (handSample ref s) := by
  unfold handSample
  repeat' split
  all_goals first
    | exact ByPath.refl s
    | exact park_changes _ _ _
    | exact directRead_changes _ _ _ _
    | exact directWrite_changes _ _ _ _ _ _
    | exact makeEntry_changes _ _ _ _ _

theorem handSecond_changes (ref : SegRef) (s : State) : ByPath s (handSecond ref s) := by
  unfold handSecond; dsimp only
  repeat' split
  all_goals first
    | exact park_changes _ _ _
    | exact handSample_changes _ _
    | exact ByPath.refl s

theorem mergeTurn_changes (e : MergeEntry) (s : State) : ByPath s (mergeTurn e s) := by
  unfold mergeTurn; split
  · exact (carryOut_changes _ _ _).trans (handSecond_changes _ _)
  · exact freeMerge_changes _ _
  · exact fetchMerge_changes _ _ _

theorem mergeSettle_changes : ∀ (n : Nat) (s : State), ByPath s (mergeSettle n s)
  | 0, s => ByPath.refl s
  | n + 1, s => by
    unfold mergeSettle; split
    · exact ByPath.refl s
    · exact (mergeTurn_changes _ _).trans (mergeSettle_changes n _)

theorem mergeRun_changes (s : State) : ByPath s (mergeRun s) := mergeSettle_changes _ _

theorem claimSecond_changes (p : PendingEntry) (n : ApertureNo) (g : Segment) (s : State) :
    ByPath s (claimSecond p n g s) := by
  unfold claimSecond
  repeat' split
  all_goals first
    | exact putMerge_changes _ _
    | exact ByPath.refl s
    | exact (setMergeTable_changes _ _).trans (handBlockRead_changes _ _ _ _)

theorem handSamples_changes (p : PendingEntry) (s : State) : ByPath s (handSamples p s) := by
  unfold handSamples; dsimp only
  repeat' split
  · exact (((setWork_changes _ _ _).trans (park_changes _ _ _)).trans (claimSecond_changes _ _ _ _)).trans
      (mergeRun_changes _)
  · exact ((handSample_changes _ _).trans (handSample_changes _ _)).trans (mergeRun_changes _)
  · exact ByPath.refl s
  · exact ByPath.refl s
  · exact (handSample_changes _ _).trans (mergeRun_changes _)

theorem answerDirect_changes (p : PendingEntry) (g : Segment) (ref : SegRef) (io : BlockIo) (h : Half)
    (r : Request) (a : Answer) (s : State) : ByPath s (answerDirect p g ref io h r a s) := by
  unfold answerDirect; dsimp only
  have h1 : ByPath s (if a = .error then entryFault p r s else s) := by
    split; exacts [(entryFault_changes _ _ _).path, ByPath.refl s]
  split
  · split
    all_goals exact h1.trans (finishSegment_changes _ _ _ _)
  · exact h1.trans (setWork_changes _ _ _)

theorem fetchFailed_changes (e : MergeEntry) (s : State) : ByPath s (fetchFailed e s) := by
  unfold fetchFailed; split
  · exact (putMerge_changes _ _).trans (finishSegment_changes _ _ _ _)
  · exact (putMerge_changes _ _).trans (finishSegment_changes _ _ _ _)
  · split
    · exact (putMerge_changes _ _).trans (finishSegment_changes _ _ _ _)
    · exact putMerge_changes _ _

theorem completeMerge_changes (e : MergeEntry) (s : State) : ByPath s (completeMerge e s) := by
  unfold completeMerge; split
  · exact fetchFailed_changes _ _
  · exact carryOut_changes _ _ _
  · exact putMerge_changes _ _
  · exact (putMerge_changes _ _).trans (finishSegment_changes _ _ _ _)
  · exact putMerge_changes _ _
  · exact ByPath.refl s

theorem answerMerge_changes (e : MergeEntry) (h : Half) (r : Request) (a : Answer) (s : State) :
    ByPath s (answerMerge e h r a s) := by
  unfold answerMerge; dsimp only
  have h1 : ByPath s (match a, (servedBy e).bind (entryOf s) with
      | .error, some p => entryFault p r s
      | _, _ => s) := by
    split; exacts [(entryFault_changes _ _ _).path, ByPath.refl s]
  split
  · exact (h1.trans (completeMerge_changes _ _)).trans (mergeRun_changes _)
  · exact h1.trans (putMerge_changes _ _)

/-! ### Ticks -/

theorem closeFirstAged_changes (s : State) : ByTracker s (closeFirstAged s) := by
  unfold closeFirstAged; split; exacts [ByTracker.refl s, abandon_changes _ _ _]

theorem actOnExpiry_changes (i : ServiceNo) (s : State) : ByTick s (actOnExpiry i s) := by
  unfold actOnExpiry; split
  · exact ByTick.trans ⟨_, _, _, _, _, _, _, _, _, _, _, _, rfl⟩
      ((retireBoth_changes _ _).flip.trans (expire_changes _ _)).tick
  · exact ByTick.refl s

theorem qualify_changes (s : State) : ByTick s (qualify s) := by
  unfold qualify; split
  · exact ByTick.trans ⟨_, _, _, _, _, _, _, _, _, _, _, _, rfl⟩ (setCause_changes _ _).jobs.flip.tick
  · exact ByTick.refl s

theorem endHoldover_changes (s : State) : ByTick s (endHoldover s) := by
  unfold endHoldover; split
  · exact ByTick.trans ⟨_, _, _, _, _, _, _, _, _, _, _, _, rfl⟩ (setCause_changes _ _).jobs.flip.tick
  · exact ByTick.refl s

theorem finishTick_changes (s : State) : ByTick s (finishTick s) :=
  ((((abandonWhere_changes _ _ _).tick.trans
    (fold_changes _ ByTick.refl (fun _ _ _ => ByTick.trans)
      (fun _ _ => (retireBoth_changes _ _).flip.tick.trans (actOnExpiry_changes _ _))
      (List.finRange 24) _)).trans (qualify_changes _)).trans (endHoldover_changes _)).trans
    ⟨_, _, _, _, _, _, _, _, _, _, _, _, rfl⟩

theorem settled_changes (s : State) : ByTick s (settled s) := by
  unfold settled; split; exacts [finishTick_changes s, ByTick.refl s]

/-- With no tick under way nothing is due (log 2). -/
theorem settled_of_closed (h : s.tickOpen = false) : settled s = s := by simp [settled, h]

theorem makeTick_changes (s : State) : ByTick s (makeTick s) :=
  ⟨_, _, _, _, _, _, _, _, _, _, _, _, rfl⟩

theorem passEdge_changes (s : State) : ByTick s (passEdge s) := by
  unfold passEdge; split; exacts [⟨_, _, _, _, _, _, _, _, _, _, _, _, rfl⟩, makeTick_changes s]

theorem clockEdge_changes (c : TickSource) (s : State) : ByTick s (clockEdge c s) := by
  unfold clockEdge; split; exacts [passEdge_changes s, .refl s]

/-- An edge of the state's own tick source is counted (R130). -/
@[simp] theorem clockEdge_tickSource (s : State) : clockEdge (tickSource s.time.state) s = passEdge s :=
  if_pos rfl

/-! ### The intake's segments -/

theorem handPiece_changes (p : PendingEntry) (s : State) (x : Segment × Nat) :
    ByPath s (handPiece p s x) := by
  unfold handPiece; dsimp only; split
  · exact handAccess_changes _ _
  · exact handPacket_changes _ _ _ _ _ _
  · exact ByPath.refl s

theorem handSegments_changes (p : PendingEntry) (s : State) : ByPath s (handSegments p s) := by
  unfold handSegments; split
  · exact ByPath.refl s
  · exact handSamples_changes _ _
  · exact fold_changes _ ByPath.refl (fun _ _ _ => ByPath.trans) (fun _ _ => handPiece_changes _ _ _) _ s

theorem recordVerdict_changes (v : Verdict) (r : Request) (s : State) : ByReport s (recordVerdict v r s) := by
  unfold recordVerdict; split; exacts [ByReport.refl s, offer_changes _ _]

theorem handleAnswer_changes (a : Access) (x : Answer) (s : State) : ByPath s (handleAnswer a x s) := by
  unfold handleAnswer answerSegment
  repeat' split
  all_goals first
    | exact ByPath.refl s
    | exact answerPlain_changes _ _ _ _ _ _
    | exact answerDirect_changes _ _ _ _ _ _ _ _
    | exact answerClear_changes _ _ _ _ _ _ _
    | exact answerHeader_changes _ _ _ _ _ _
    | exact answerMerge_changes _ _ _ _ _

/-- The request that the arbiter takes is taken (R5, R6). -/
theorem arbitrate_of_arbiterTakes {u b : State} {source : Source} {r : Request}
    (h : arbiterTakes u source r b) : arbitrate u = takeRequest source r b := by
  cases source with
  | upstream =>
    obtain ⟨rest, h1, h2, h3, rfl⟩ := h
    have hr : readyUpstream u = some r := by simp [readyUpstream, h1, h2]
    have ht : takeUpstream r u = takeRequest .upstream r { u with upstream := rest } := by
      simp [takeUpstream, h1]
    rw [← ht]
    unfold arbitrate
    rcases h3 with h3 | h3 <;> rw [hr, h3]
    cases readyJob u <;> rfl
  | job =>
    obtain ⟨run, h1, h2, rfl, h4, h5, rfl⟩ := h
    have hr : readyJob u = some run := by simp [readyJob, h1, h2, h4]
    have ht : takeJob run u = takeRequest .job run.request
        { u with run := some { run with taken := true } } := rfl
    rw [← ht]
    unfold arbitrate
    rcases h5 with h5 | h5 <;> rw [hr, h5]
    cases readyUpstream u <;> rfl

end Sys2Proof.Machine
end

