-- ==== Sys2Proof/Laws/Coding.lean ====
section
/-! SUPPORT. Numbers as bytes, least significant first (R177): the two directions undo each other. -/

namespace Sys2Proof

/-- The number that its own `k` bytes hold. -/
theorem leNat_leBytes : ∀ k n, n < 256 ^ k → leNat (leBytes k n) = n
  | 0, n, h => by simp at h; subst h; rfl
  | k + 1, n, h => by
    simp only [leBytes, leNat, BitVec.toNat_ofNat]
    rw [leNat_leBytes k (n / 256) (by rw [pow_succ] at h; omega)]
    omega

/-- The bytes of the number that some bytes hold. -/
theorem leBytes_leNat : ∀ l : List Byte, leBytes l.length (leNat l) = l
  | [] => rfl
  | b :: l => by
    have := b.isLt
    have e : (b.toNat + 256 * leNat l) / 256 = leNat l := by omega
    simp only [List.length_cons, leBytes, leNat, e, leBytes_leNat l]
    congr 1
    apply BitVec.eq_of_toNat_eq
    simp
    omega

/-- A number that `k` bytes hold is below 256 to the power of `k`. -/
theorem leNat_lt : ∀ l : List Byte, leNat l < 256 ^ l.length
  | [] => by simp [leNat]
  | b :: l => by
    have := leNat_lt l
    have := b.isLt
    simp only [leNat, List.length_cons, pow_succ]
    omega

/-- A field is read back from its bytes. -/
theorem field_fieldBytes (k w : Nat) (v : BitVec w) (h : w = 8 * k) : field w (fieldBytes k v) = v := by
  have : v.toNat < 256 ^ k := by
    have := v.isLt
    subst h
    rwa [show (256 : ℕ) = 2 ^ 8 from rfl, ← pow_mul]
  simp [field, fieldBytes, leNat_leBytes k _ this]

/-- The bytes of a field are the bytes it was read from. -/
theorem fieldBytes_field (k w : Nat) (l : List Byte) (h : w = 8 * k) (hl : l.length = k) :
    fieldBytes k (field w l) = l := by
  have := leNat_lt l
  subst hl
  simp only [fieldBytes, field, BitVec.toNat_ofNat]
  rw [Nat.mod_eq_of_lt (by subst h; rwa [show (256 : ℕ) = 2 ^ 8 from rfl, ← pow_mul] at this),
    leBytes_leNat]

end Sys2Proof
end

