-- ==== Sys2Proof/Laws/Merge.lean ====
section
/-! SUPPORT. What the operations of the merge table do to the table and to the pending list (R51 to R62):
one lemma for each operation, to be cited in place of its definition. -/

namespace Sys2Proof.Machine

/-! ### The pending list under a change of one segment -/

/-- An entry found by its name has it. -/
theorem entryOf_id {s : State} {id : Nat} {e : PendingEntry} (h : entryOf s id = some e) : e.id = id := by
  unfold entryOf at h
  have := List.find?_some h
  simpa using this

/-- An entry after a change of one segment. -/
theorem entryOf_updateSegment (ref : SegRef) (f : Segment → Segment) (s : State) (id : Nat) :
    entryOf (updateSegment ref f s) id =
      (entryOf s id).map fun e =>
        if e.id = ref.id then { e with segments := e.segments.modify ref.index f } else e := by
  unfold entryOf updateSegment
  dsimp only
  rw [List.find?_map]
  congr 2
  funext e
  simp only [Function.comp]
  split <;> rfl

/-- A segment after a change of one: the one that is named is changed, and no other is (R5). -/
theorem segmentOf_updateSegment (ref : SegRef) (f : Segment → Segment) (s : State) (r : SegRef)
    (p : PendingEntry) (g : Segment) (h : segmentOf (updateSegment ref f s) r = some (p, g)) :
    ∃ p' g', segmentOf s r = some (p', g') ∧ p'.aperture = p.aperture ∧
      g = if r = ref then f g' else g' := by
  unfold segmentOf at h ⊢
  rw [entryOf_updateSegment] at h
  cases he : entryOf s r.id with
  | none => rw [he] at h; simp at h
  | some e =>
    have hid := entryOf_id he
    rw [he] at h
    simp only [Option.map_some] at h ⊢
    by_cases hr : e.id = ref.id
    · rw [if_pos hr] at h
      simp only [List.getElem?_modify] at h
      cases hg : e.segments[r.index]? with
      | none => rw [hg] at h; simp at h
      | some g' =>
        rw [hg] at h
        simp at h
        refine ⟨e, g', rfl, by rw [← h.1], ?_⟩
        rw [← h.2]
        by_cases hi : ref.index = r.index
        · rw [if_pos hi, if_pos]
          cases r
          cases ref
          simp_all
        · rw [if_neg hi, if_neg]
          rintro rfl
          exact hi rfl
    · rw [if_neg hr] at h
      cases hg : e.segments[r.index]? with
      | none => rw [hg] at h; simp at h
      | some g' =>
        rw [hg] at h
        simp at h
        refine ⟨e, g', rfl, by rw [← h.1], ?_⟩
        rw [← h.2, if_neg]
        rintro rfl
        exact hr hid

/-! ### Operations that leave the table -/

/-- The merge table and the pending list are as they were. -/
def TableKept (s t : State) : Prop := t.mergeTable = s.mergeTable ∧ t.pendingList = s.pendingList

theorem TableKept.refl (s : State) : TableKept s s := ⟨rfl, rfl⟩

theorem TableKept.trans {s t u : State} : TableKept s t → TableKept t u → TableKept s u :=
  fun ⟨a, b⟩ ⟨c, d⟩ => ⟨c.trans a, d.trans b⟩

theorem ByReport.tableKept {s t : State} : ByReport s t → TableKept s t := by
  rintro ⟨_, _, _, _, rfl⟩; exact ⟨rfl, rfl⟩

theorem handBlock_tableKept (r : Request) (b : Block) (op : Nat → Nat → Op) (h : Half → Handler)
    (s : State) : TableKept s (handBlock r b op h s) := by
  unfold handBlock; dsimp only; split <;> exact ⟨rfl, rfl⟩

theorem handBlockRead_tableKept (r : Request) (b : Block) (h : Half → Handler) (s : State) :
    TableKept s (handBlockRead r b h s) := handBlock_tableKept _ _ _ _ _

theorem handBlockWrite_tableKept (r : Request) (b : Block) (ws : List Word) (h : Half → Handler)
    (s : State) : TableKept s (handBlockWrite r b ws h s) := handBlock_tableKept _ _ _ _ _

theorem addSaturated_tableKept (i : ApertureNo) (n : Nat) (s : State) :
    TableKept s (addSaturated i n s) := by
  unfold addSaturated; dsimp only; split
  · exact TableKept.trans (t := { s with apertures := _ }) ⟨rfl, rfl⟩ (setCause_changes _ _).tableKept
  · exact ⟨rfl, rfl⟩

/-! ### An entry's new contents in the table -/

/-- The table with an entry's new contents. -/
def putIn (x : MergeEntry) (table : List MergeEntry) : List MergeEntry :=
  table.map fun m => if m.block = x.block then x else m

theorem putMerge_table (x : MergeEntry) (s : State) : (putMerge x s).mergeTable = putIn x s.mergeTable :=
  rfl

theorem putIn_length (x : MergeEntry) (table : List MergeEntry) : (putIn x table).length = table.length := by
  simp [putIn]

/-- The blocks that are served do not change. -/
theorem putIn_blocks (x : MergeEntry) (table : List MergeEntry) :
    (putIn x table).map (·.block) = table.map (·.block) := by
  unfold putIn
  rw [List.map_map]
  refine List.map_congr_left fun m _ => ?_
  simp only [Function.comp]
  split <;> simp_all

/-- The new contents are in the table. -/
theorem mem_putIn {x e : MergeEntry} {table : List MergeEntry} (he : e ∈ table) (hb : x.block = e.block) :
    x ∈ putIn x table := by
  unfold putIn
  rw [List.mem_map]
  exact ⟨e, he, by simp [hb]⟩

/-- The entry a block meets is in the table and serves it (R51). -/
theorem mem_of_mergeOf {s : State} {b : Block} {e : MergeEntry} (h : mergeOf s b = some e) :
    e ∈ s.mergeTable ∧ e.block = b := by
  unfold mergeOf at h
  exact ⟨List.mem_of_find?_eq_some h, by have := List.find?_some h; simpa using this⟩

/-- The entry that holds a claim is in the table (R59). -/
theorem mem_of_claimOf {s : State} {id : Nat} {e : MergeEntry} (h : claimOf s id = some e) :
    e ∈ s.mergeTable ∧ id ∈ e.claims := by
  unfold claimOf at h
  exact ⟨List.mem_of_find?_eq_some h, by have := List.find?_some h; simpa using this⟩

/-! ### What an entry's operations do -/

/-- A fetch changes the entry alone, keeping its wait list and claim list (R53, R58). -/
theorem fetchMerge_effect (e : MergeEntry) (id : Nat) (s : State) :
    ∃ x : MergeEntry, x.block = e.block ∧ x.waits = e.waits ∧ x.claims = e.claims ∧ x.state = .fetching ∧
      (fetchMerge e id s).mergeTable = putIn x s.mergeTable ∧
      (fetchMerge e id s).pendingList = s.pendingList := by
  refine ⟨{ e with state := .fetching, copy := none, io := freshIo e.block, fetchFor := some id },
    rfl, rfl, rfl, rfl, ?_⟩
  unfold fetchMerge
  dsimp only
  split
  · exact ⟨rfl, rfl⟩
  · obtain ⟨h1, h2⟩ := handBlockRead_tableKept _ e.block (.merge e.block)
      (putMerge { e with
        state := .fetching, copy := none, io := freshIo e.block, fetchFor := some id } s)
    rw [h1, h2]
    exact ⟨rfl, rfl⟩

/-- A write changes the entry alone, keeping its wait list and claim list (R56). -/
theorem writeMerge_effect (e : MergeEntry) (p : PendingEntry) (stored : Stored) (s : State) :
    ∃ x : MergeEntry, x.block = e.block ∧ x.waits = e.waits ∧ x.claims = e.claims ∧
      (writeMerge e p stored s).mergeTable = putIn x s.mergeTable ∧
      (writeMerge e p stored s).pendingList = s.pendingList := by
  refine ⟨{ e with state := .writing, copy := some stored, io := freshIo e.block }, rfl, rfl, rfl, ?_⟩
  unfold writeMerge
  obtain ⟨h1, h2⟩ := handBlockWrite_tableKept p.request e.block (packWords e.block.depth stored)
    (.merge e.block)
    (putMerge { e with state := .writing, copy := some stored, io := freshIo e.block } s)
  rw [h1, h2]
  exact ⟨rfl, rfl⟩

/-- `writeMerge_effect` after a count of saturated lanes (R40, R56). -/
theorem writeMerge_counted_effect (e : MergeEntry) (p : PendingEntry) (stored : Stored) (i : ApertureNo)
    (n : Nat) (s : State) :
    ∃ x : MergeEntry, x.block = e.block ∧ x.waits = e.waits ∧ x.claims = e.claims ∧
      (writeMerge e p stored (addSaturated i n s)).mergeTable = putIn x s.mergeTable ∧
      (writeMerge e p stored (addSaturated i n s)).pendingList = s.pendingList := by
  obtain ⟨x, h1, h2, h3, h4, h5⟩ := writeMerge_effect e p stored (addSaturated i n s)
  obtain ⟨g1, g2⟩ := addSaturated_tableKept i n s
  exact ⟨x, h1, h2, h3, by rw [h4, g1], by rw [h5, g2]⟩

/-- An entry that carries out an item changes itself alone, keeping its wait list and claim list, and
finishes no segment but the item's, DONE (R56, R58). -/
theorem carryOut_effect (e : MergeEntry) (ref : SegRef) (s : State) :
    ∃ x : MergeEntry, x.block = e.block ∧ x.waits = e.waits ∧ x.claims = e.claims ∧
      (carryOut e ref s).mergeTable = putIn x s.mergeTable ∧
      ((carryOut e ref s).pendingList = s.pendingList ∨
        ∃ data, (carryOut e ref s).pendingList = (finishSegment ref .done data s).pendingList) := by
  have written : ∀ p stored i n, ∃ x : MergeEntry,
      x.block = e.block ∧ x.waits = e.waits ∧ x.claims = e.claims ∧
      (writeMerge e p stored (addSaturated i n s)).mergeTable = putIn x s.mergeTable ∧
      ((writeMerge e p stored (addSaturated i n s)).pendingList = s.pendingList ∨
        ∃ data, (writeMerge e p stored (addSaturated i n s)).pendingList =
          (finishSegment ref .done data s).pendingList) := fun p stored i n => by
    obtain ⟨x, h1, h2, h3, h4, h5⟩ := writeMerge_counted_effect e p stored i n s
    exact ⟨x, h1, h2, h3, h4, Or.inl h5⟩
  have fetched : ∃ x : MergeEntry, x.block = e.block ∧ x.waits = e.waits ∧ x.claims = e.claims ∧
      (fetchMerge e ref.id s).mergeTable = putIn x s.mergeTable ∧
      ((fetchMerge e ref.id s).pendingList = s.pendingList ∨
        ∃ data, (fetchMerge e ref.id s).pendingList =
          (finishSegment ref .done data s).pendingList) := by
    obtain ⟨x, h1, h2, h3, _, h4, h5⟩ := fetchMerge_effect e ref.id s
    exact ⟨x, h1, h2, h3, h4, Or.inl h5⟩
  unfold carryOut
  split
  · exact ⟨{ e with item := none }, rfl, rfl, rfl, rfl, Or.inl rfl⟩
  · split
    · dsimp only
      split
      · exact ⟨{ e with state := .held, item := none }, rfl, rfl, rfl, rfl, Or.inr ⟨_, rfl⟩⟩
      · exact fetched
      · exact written _ _ _ _
      · exact written _ _ _ _
      · exact fetched
    · exact ⟨{ e with item := none }, rfl, rfl, rfl, rfl, Or.inl rfl⟩

/-! ### What handing a sample segment does -/

/-- The ways of R43 and R46, by what each does to the table and the pending list: nothing, parking on an
entry, a direct access, or an entry of its own for a partial write. -/
theorem handSample_effect (ref : SegRef) (s : State) :
    TableKept s (handSample ref s) ∨
    (∃ e ∈ s.mergeTable,
      (handSample ref s).mergeTable = putIn { e with waits := e.waits ++ [ref] } s.mergeTable ∧
      (handSample ref s).pendingList = (setWork ref .merging s).pendingList) ∨
    ((handSample ref s).mergeTable = s.mergeTable ∧
      ∃ io, (handSample ref s).pendingList = (setWork ref (.direct io) s).pendingList) ∨
    (∃ p g b c first ws, segmentOf s ref = some (p, g) ∧ sampleCopy p = some c ∧
      g.place = .sample b first false ∧ g.op = .write ws ∧ mergeOf s b = none ∧
      (handSample ref s).mergeTable = s.mergeTable ++ [newMerge b c.number (some ref) [] ref.id] ∧
      (handSample ref s).pendingList = (setWork ref .merging s).pendingList) := by
  unfold handSample
  split
  · exact Or.inl (TableKept.refl s)
  · rename_i p g hs
    split
    · rename_i c b first full hc hp
      split
      · rename_i e he
        exact Or.inr (Or.inl ⟨e, (mem_of_mergeOf he).1, rfl, rfl⟩)
      · obtain ⟨h1, h2⟩ := handBlockRead_tableKept p.request b (.segment ref)
          (setWork ref (.direct (freshIo b)) s)
        exact Or.inr (Or.inr (Or.inl ⟨h1, _, h2⟩))
      · rename_i ws hm ho
        unfold directWrite
        dsimp only
        obtain ⟨h1, h2⟩ := handBlockWrite_tableKept p.request b
          (packWords c.depth (formFull c.width c.depth (ws.map (·.data))).stored) (.segment ref)
          (setWork ref (.direct (freshIo b))
            (addSaturated c.number (formFull c.width c.depth (ws.map (·.data))).saturated s))
        obtain ⟨a1, a2⟩ := addSaturated_tableKept c.number
          (formFull c.width c.depth (ws.map (·.data))).saturated s
        refine Or.inr (Or.inr (Or.inl ⟨by rw [h1]; exact a1, freshIo b, ?_⟩))
        rw [h2]
        simp only [setWork, updateSegment, a2]
      · rename_i ws hm ho
        obtain ⟨h1, h2⟩ := handBlockRead_tableKept p.request b (.merge b)
          (setWork ref .merging
            { s with mergeTable := s.mergeTable ++ [newMerge b c.number (some ref) [] ref.id] })
        exact Or.inr (Or.inr (Or.inr ⟨p, g, b, c, first, ws, hs, hc, hp, ho, hm, h1, h2⟩))
    · exact Or.inl (TableKept.refl s)

end Sys2Proof.Machine
end

