-- ==== Sys2Proof/Laws/PerInstr.lean ====
section
/-! SUPPORT. What holds of every command, constructor by constructor. -/

namespace Sys2Proof.Laws.FrameCoding

open Sys2Proof

/-- A management command has as many parameter bytes as the command code table gives its code, and no
more than a frame can hold; another step has no code and no parameters (R175, R177). -/
def Statement (i : Instr) : Prop :=
  match i.code with
  | some (c, n) => i.params.length = n ∧ paramLength c = some n ∧ c ≠ 0 ∧ n ≤ 45
  | none => i.params = []

theorem length_leBytes : ∀ (k n : Nat), (leBytes k n).length = k
  | 0, _ => rfl
  | k + 1, n => by simp [leBytes, length_leBytes k]

theorem length_fieldBytes (k : Nat) {w : Nat} (v : BitVec w) : (fieldBytes k v).length = k :=
  length_leBytes k _

theorem takeRequest (arrivals : List Request) : Statement (.takeRequest arrivals) := rfl
theorem issueAccess (swap : Bool) : Statement (.issueAccess swap) := rfl
theorem memoryAnswer (answer : Answer) : Statement (.memoryAnswer answer) := rfl
theorem releaseResponse (owner : Owner) : Statement (.releaseResponse owner) := rfl
theorem tick : Statement (.tick) := rfl
theorem idleClose : Statement (.idleClose) := rfl
theorem retirement (service : ServiceNo) (phase : Phase) : Statement (.retirement service phase) := rfl
theorem expiry (service : ServiceNo) : Statement (.expiry service) := rfl
theorem referenceQualified : Statement (.referenceQualified) := rfl
theorem holdoverEnd : Statement (.holdoverEnd) := rfl
theorem referenceLost : Statement (.referenceLost) := rfl
theorem referenceReturned : Statement (.referenceReturned) := rfl
theorem frameStart : Statement (.frameStart) := rfl
theorem windowOpening : Statement (.windowOpening) := rfl
theorem windowClosing : Statement (.windowClosing) := rfl
theorem purgeAssertion : Statement (.purgeAssertion) := rfl
theorem purgeRelease : Statement (.purgeRelease) := rfl
theorem resetAssertion : Statement (.resetAssertion) := rfl
theorem resetRelease (levels : Levels) : Statement (.resetRelease levels) := rfl
theorem powerUp : Statement (.powerUp) := rfl
theorem readPeriod (edges : Nat) : Statement (.readPeriod edges) := rfl
theorem badFrame (period : Period) : Statement (.badFrame period) := rfl
theorem badCommand (code : Byte) (params : List Byte) : Statement (.badCommand code params) := rfl
theorem writePath (action limit : Byte) : Statement (.writePath action limit) := ⟨rfl, rfl, by decide, by decide⟩
theorem readPath : Statement (.readPath) := ⟨rfl, rfl, by decide, by decide⟩
theorem writeAperture (params : ApertureParams) : Statement (.writeAperture params) := by
  refine ⟨?_, rfl, by decide, by decide⟩; simp [Instr.params, length_fieldBytes, apertureBytes]
theorem readAperture (entry clear : Byte) : Statement (.readAperture entry clear) := ⟨rfl, rfl, by decide, by decide⟩
theorem writeMask (initiator : Byte) (mask : BitVec 16) : Statement (.writeMask initiator mask) := by
  refine ⟨?_, rfl, by decide, by decide⟩; simp [Instr.params, length_fieldBytes]
theorem readMask (initiator : Byte) : Statement (.readMask initiator) := ⟨rfl, rfl, by decide, by decide⟩
theorem writeStream (params : StreamParams) : Statement (.writeStream params) := by
  refine ⟨?_, rfl, by decide, by decide⟩; simp [Instr.params, length_fieldBytes, streamBytes]
theorem readStream (entry : Byte) : Statement (.readStream entry) := ⟨rfl, rfl, by decide, by decide⟩
theorem writeService (params : ServiceParams) : Statement (.writeService params) := by
  refine ⟨?_, rfl, by decide, by decide⟩; simp [Instr.params, length_fieldBytes, serviceBytes]
theorem readService (service : Byte) : Statement (.readService service) := ⟨rfl, rfl, by decide, by decide⟩
theorem loadKey (service phase : Byte) (word : ControlWord) : Statement (.loadKey service phase word) := by
  refine ⟨?_, rfl, by decide, by decide⟩; simp [Instr.params]
theorem stop (service : Byte) : Statement (.stop service) := ⟨rfl, rfl, by decide, by decide⟩
theorem start (service phase : Byte) : Statement (.start service phase) := ⟨rfl, rfl, by decide, by decide⟩
theorem flip (service : Byte) : Statement (.flip service) := ⟨rfl, rfl, by decide, by decide⟩
theorem writeTimebase (params : TimebaseParams) : Statement (.writeTimebase params) := by
  refine ⟨?_, rfl, by decide, by decide⟩; simp [Instr.params, length_fieldBytes, timebaseBytes]
theorem readTimebase : Statement (.readTimebase) := ⟨rfl, rfl, by decide, by decide⟩
theorem acceptLocal : Statement (.acceptLocal) := ⟨rfl, rfl, by decide, by decide⟩
theorem writeJob (params : JobParams) : Statement (.writeJob params) := by
  refine ⟨?_, rfl, by decide, by decide⟩; simp [Instr.params, length_fieldBytes, jobBytes]
theorem readJob (slot clear : Byte) : Statement (.readJob slot clear) := ⟨rfl, rfl, by decide, by decide⟩
theorem triggerJob (slot : Byte) : Statement (.triggerJob slot) := ⟨rfl, rfl, by decide, by decide⟩
theorem readCapture : Statement (.readCapture) := ⟨rfl, rfl, by decide, by decide⟩
theorem readEvents : Statement (.readEvents) := ⟨rfl, rfl, by decide, by decide⟩
theorem clearEvents (path keys jobs timebase : Byte) : Statement (.clearEvents path keys jobs timebase) := ⟨rfl, rfl, by decide, by decide⟩
theorem writeEventEnables (group set : Byte) : Statement (.writeEventEnables group set) := ⟨rfl, rfl, by decide, by decide⟩
theorem ackGroup (group : Byte) : Statement (.ackGroup group) := ⟨rfl, rfl, by decide, by decide⟩
theorem clearOverrun : Statement (.clearOverrun) := ⟨rfl, rfl, by decide, by decide⟩
theorem pathReset : Statement (.pathReset) := ⟨rfl, rfl, by decide, by decide⟩
theorem keyPurge : Statement (.keyPurge) := ⟨rfl, rfl, by decide, by decide⟩

end Sys2Proof.Laws.FrameCoding
end

