-- ==== Sys2Proof/Laws/Reports.lean ====
section
/-! SUPPORT. What a report leaves (R165 to R171), and how a select period is answered (R174, R175). -/

namespace Sys2Proof.Machine

/-! ### Flags and groups -/

/-- No two causes share a place (R168). -/
theorem causeIndex_ne {c d : Cause} (h : d ≠ c) : (causeIndex c).val ≠ (causeIndex d).val := by
  revert h; cases c <;> cases d <;> decide

/-- No two groups share a place (R168). -/
theorem groupIndex_ne {g k : Group} (h : k ≠ g) : (groupIndex g).val ≠ (groupIndex k).val := by
  revert h; cases g <;> cases k <;> decide

/-- The flags after a cause's event (R168). -/
theorem flagOf_setCause (c d : Cause) (s : State) :
    flagOf (setCause c s) d = (flagOf s d || decide (d = c)) := by
  have : flagOf (setCause c s) d = (s.flags.set (causeIndex c) true)[causeIndex d] := by
    unfold setCause flagOf raiseGroup; dsimp only; split <;> rfl
  rw [this]
  by_cases h : d = c
  · subst h; simp
  · simp [h, flagOf, Vector.getElem_set_ne, causeIndex_ne h]

/-- The groups after a cause's event (R170). -/
theorem raisedOf_setCause (c : Cause) (g : Group) (s : State) :
    raisedOf (setCause c s) g = (raisedOf s g || (decide (g = causeGroup c) && enableOf s c)) := by
  by_cases he : enableOf s c = true
  · have : raisedOf (setCause c s) g = (s.raised.set (groupIndex (causeGroup c)) true)[groupIndex g] := by
      simp [setCause, enableOf, raiseGroup, raisedOf] at he ⊢
      simp [he]
    rw [this]
    by_cases h : g = causeGroup c
    · subst h; simp [he]
    · simp [h, raisedOf, Vector.getElem_set_ne, groupIndex_ne h]
  · have : raisedOf (setCause c s) g = raisedOf s g := by
      simp [setCause, enableOf, raisedOf] at he ⊢
      simp [he]
    simp [this, he]

/-! ### Capture queue -/

/-- The queue after an offer (R165, R167). -/
theorem capture_offer (r : CaptureRecord) (s : State) :
    (offer r s).capture = if s.capture.length < 48 then s.capture ++ [r] else s.capture := by
  by_cases h : s.capture.length < 48
  · by_cases hc : s.capture.isEmpty <;> simp [offer, Config.captureLimit, h, hc]
  · simp [offer, Config.captureLimit, h]

/-! ### Select periods -/

/-- A request period that the part listens to is answered (R175). -/
theorem requestPeriod_listening {n : Nat} {reply : State → Reply} {s : State} (h : listening s) :
    requestPeriod n reply s = answerPeriod n (firstOut s) (reply (settled s)) := by
  simp [requestPeriod, ignoring, h.1, h.2]

/-- A command answers what its reply gives (R175). -/
theorem answers_of {i : Instr} {s t : State} {st : PortStatus} {data : List Byte} {n : Nat}
    (h : listening s) (reply : State → Reply) (he : exec i s = .next (requestPeriod n reply s))
    (hn : n = 3 + i.params.length) (hr : reply (settled s) = ⟨st, data, t⟩) : answers i s st data t := by
  unfold answers
  rw [he, requestPeriod_listening h, hr, hn]
  simp only [answerPeriod]
  congr 5
  omega

/-! ### Key slots -/

/-- A change of a slot's user count leaves the key-wanted indication (R125). -/
theorem keyWanted_users (v : Service) (p : Phase) (n : Nat) :
    keyWanted (withKeySlot p { keySlot v p with users := n } v) = keyWanted v := by
  cases p <;>
    cases ha : v.slotA.state <;> cases hb : v.slotB.state <;>
    simp [keyWanted, withKeySlot, keySlot, nextState, activePhase, otherPhase, ha, hb]

end Sys2Proof.Machine
end

