-- ==== Sys2Proof/Laws/Words.lean ====
section
/-! SUPPORT. The bits of packed blocks (R37) and the bytes of changed words (R74, R75). -/

namespace Sys2Proof.Machine

/-! ### Packing -/

/-- A bit of a number made of fields of `D` bits each. -/
theorem testBit_foldr (D : Nat) : ∀ l : List Nat, (∀ x ∈ l, x < 2 ^ D) → ∀ i b : Nat, b < D →
    (l.foldr (fun v acc => v + 2 ^ D * acc) 0).testBit (D * i + b) = (l.getD i 0).testBit b
  | [], _, i, b, _ => by simp
  | v :: l, h, i, b, hb => by
    have ih := testBit_foldr D l fun x hx => h x (by simp [hx])
    rw [List.foldr_cons, Nat.add_comm, Nat.testBit_two_pow_mul_add _ (h v (by simp))]
    cases i with
    | zero => simp [hb]
    | succ i =>
      have h1 : ¬ (D * (i + 1) + b < D) := by rw [Nat.mul_add]; omega
      have h2 : D * (i + 1) + b - D = D * i + b := by rw [Nat.mul_add]; omega
      simp only [h1, if_false, h2]
      rw [ih i b hb]
      simp

/-- A bit of some words as one number. -/
theorem testBit_wordsNat (ws : List Word) (m : Nat) :
    (wordsNat ws).testBit m = (ws.getD (m / 64) 0).getLsbD (m % 64) := by
  have := testBit_foldr 64 (ws.map (·.toNat))
    (by simp only [List.mem_map]; rintro x ⟨w, _, rfl⟩; exact w.isLt) (m / 64) (m % 64)
    (Nat.mod_lt _ (by decide))
  rw [Nat.div_add_mod m 64, List.foldr_map] at this
  unfold wordsNat
  rw [this]
  simp only [List.getD_eq_getElem?_getD, List.getElem?_map]
  cases ws[m / 64]? <;> simp [BitVec.getLsbD]

/-- A bit of the bytes of some words is the same bit of the words. -/
theorem getLsbD_bytes (ws : List Word) (m : Nat) :
    (((ws.map bytesOf).flatten).getD (m / 8) 0).getLsbD (m % 8)
      = (ws.getD (m / 64) 0).getLsbD (m % 64) := by
  induction ws generalizing m with
  | nil => simp
  | cons w ws ih =>
    simp only [List.map_cons, List.flatten_cons]
    by_cases hm : m < 64
    · have h1 : m / 64 = 0 := by omega
      have h2 : m % 64 = m := by omega
      have h3 : m / 8 < 8 := by omega
      rw [List.getD_append _ _ _ _ (by simp [bytesOf]; omega)]
      simp only [h1, h2, List.getD_cons_zero]
      have : (bytesOf w).getD (m / 8) 0 = byteOf w (m / 8) := by
        simp [bytesOf, List.getD_eq_getElem?_getD, h3]
      rw [this]
      simp only [byteOf, BitVec.getLsbD_setWidth, BitVec.getLsbD_ushiftRight]
      have : m % 8 < 8 := by omega
      simp [this]
      congr 1
      omega
    · rw [List.getD_append_right _ _ _ _ (by simp [bytesOf]; omega)]
      have h1 : m / 64 = (m - 64) / 64 + 1 := by omega
      have h2 : m % 64 = (m - 64) % 64 := by omega
      have h3 : m / 8 - (bytesOf w).length = (m - 64) / 8 := by simp [bytesOf]; omega
      have h4 : m % 8 = (m - 64) % 8 := by omega
      rw [h1, h2, h3, h4, ih]
      simp

/-- A bit of a lane of an unpacked block. -/
theorem getLsbD_unpackWords (D : Nat) (hD : D = 8 ∨ D = 10 ∨ D = 12) (ws : List Word) (i : Fin 32)
    (b : Nat) :
    (unpackWords D ws)[i].getLsbD b =
      (decide (b < D) && (ws.getD ((D * i.val + b) / 64) 0).getLsbD ((D * i.val + b) % 64)) := by
  simp only [unpackWords, Fin.getElem_fin, Vector.getElem_ofFn, BitVec.getLsbD_ofNat,
    Nat.testBit_mod_two_pow, Nat.testBit_shiftRight]
  rw [← testBit_wordsNat]
  by_cases hb : b < D
  · have : b < 12 := by omega
    simp [hb, this]
  · simp [hb]

/-! ### Bytes of changed words -/

/-- A bit of a word of some bytes. -/
theorem getLsbD_wordOf : ∀ (bytes : List Byte) (q : Nat), q < 64 →
    (wordOf bytes).getLsbD q = (bytes.getD (q / 8) 0).getLsbD (q % 8)
  | [], q, _ => by simp [wordOf]
  | b :: bytes, q, hq => by
    have e : wordOf (b :: bytes) = (wordOf bytes <<< 8) ||| b.setWidth 64 := rfl
    rw [e, BitVec.getLsbD_or, BitVec.getLsbD_shiftLeft, BitVec.getLsbD_setWidth]
    by_cases h : q < 8
    · have h1 : q / 8 = 0 := by omega
      have h2 : q % 8 = q := by omega
      simp [h, hq, h1, h2]
    · have h1 : q / 8 = (q - 8) / 8 + 1 := by omega
      have h2 : q % 8 = (q - 8) % 8 := by omega
      have h3 : b.getLsbD q = false := BitVec.getLsbD_of_ge _ _ (by omega)
      rw [getLsbD_wordOf bytes (q - 8) (by omega), h1, h2, h3]
      simp [h, hq]

/-- A byte of a word of some bytes. -/
theorem byteOf_wordOf (bytes : List Byte) (j : Nat) (hj : j < 8) :
    byteOf (wordOf bytes) j = bytes.getD j 0 := by
  apply BitVec.eq_of_getLsbD_eq
  intro q hq
  have h1 : (8 * j + q) / 8 = j := by omega
  have h2 : (8 * j + q) % 8 = q := by omega
  simp only [byteOf, BitVec.getLsbD_setWidth, BitVec.getLsbD_ushiftRight]
  rw [getLsbD_wordOf bytes _ (by omega), h1, h2]
  simp [hq]

/-- A word is the word of its own bytes. -/
theorem wordOf_bytesOf (w : Word) : wordOf (bytesOf w) = w := by
  apply BitVec.eq_of_getLsbD_eq
  intro q hq
  have h := getLsbD_bytes [w] q
  have h1 : q / 64 = 0 := by omega
  have h2 : q % 64 = q := by omega
  rw [h1, h2] at h
  rw [getLsbD_wordOf _ q hq]
  simpa using h

/-- A byte of a word of `mapSlotWords` (R74, R75, R105). -/
theorem mapSlotWords_at (first : Nat) (f : Nat → Byte → Byte) (ws : List Word) (k j : Nat) (w : Word)
    (h : ws[k]? = some w) (hj : j < 8) :
    ∃ x, (mapSlotWords first f ws)[k]? = some x ∧ byteOf x j = f (8 * (first + k) + j) (byteOf w j) := by
  refine ⟨wordOf ((bytesOf w).zipIdx.map fun q => f (8 * (first + k) + q.2) q.1), ?_, ?_⟩
  · simp [mapSlotWords, h]
  · generalize hF : (fun q : Byte × Nat => f (8 * (first + k) + q.2) q.1) = F
    have : (bytesOf w).zipIdx.map F = [F (byteOf w 0, 0), F (byteOf w 1, 1), F (byteOf w 2, 2),
        F (byteOf w 3, 3), F (byteOf w 4, 4), F (byteOf w 5, 5), F (byteOf w 6, 6), F (byteOf w 7, 7)] :=
      rfl
    rw [this, byteOf_wordOf _ _ hj, ← hF]
    have : j = 0 ∨ j = 1 ∨ j = 2 ∨ j = 3 ∨ j = 4 ∨ j = 5 ∨ j = 6 ∨ j = 7 := by omega
    rcases this with rfl | rfl | rfl | rfl | rfl | rfl | rfl | rfl <;> rfl

end Sys2Proof.Machine
end

