-- ==== Sys2Proof/Tests/Slice0.lean ====
section
/-! SUPPORT. Tests: ill-formed commands, the manual's check values, small effects of commands, and for
every statement a state and operands that meet its hypotheses, clause by clause. -/

namespace Sys2Proof.Tests

open Sys2Proof Sys2Proof.Machine

set_option Elab.async false

/-! ### Helpers -/

/-- The state a command leaves. -/
def after (i : Instr) (s : State) : State :=
  match exec i s with
  | .next t => t
  | .fault _ => s
  | .refused _ => s

/-- The status of the response held. -/
def statusOf (s : State) : Option Byte := s.heldResponse.bind (·.head?)

/-- The power-on state with one service. -/
def withService (v : Service) : State := { State.reset with services := State.reset.services.set 3 v }

/-- The power-on state with one job slot, and the others disabled. -/
def withJob (v : JobSlot) : State := { State.reset with jobs := State.reset.jobs.set 2 v }

/-- The power-on state with the timebase in a state. -/
def inState (t : TimeState) (hold : Bool) : State :=
  { State.reset with time := { State.reset.time with state := t, hold := hold, refPresent := true } }

def word7 : ControlWord := Vector.replicate 16 7
def keyOf (st : KeyState) (users age : Nat) : KeySlot := ⟨st, word7, users, age⟩
def serviceIn (st : ServiceState) (a b : KeySlot) : Service :=
  { Service.reset with state := st, counter := 1, slotA := a, slotB := b }
def running (b : KeyState) : Service := serviceIn .running (keyOf .active 0 0) (keyOf b 0 0)

/-- A RAW aperture open to initiator 6 alone. -/
def rawEntry : Aperture := { Aperture.reset with
  valid := true, base := 0x100, limit := 0x104, writeSet := 0x40#16, readSet := 0x40#16 }
def withAperture (a : Aperture) : State :=
  { State.reset with apertures := State.reset.apertures.set 0 a }

def good : Request := ⟨6, 2, .read 4, 0x00100080#32⟩
def unaligned : Request := ⟨6, 2, .read 4, 0x00100081#32⟩
def presented (r : Request) (s : State) : State := { s with upstream := [r] }

def jobRequestA : Request := jobRequest 2 (.read 1) 0#32
def jobRun : JobRun := ⟨2, jobRequestA, .fillWrite, false⟩
def digestRun : JobRun := ⟨2, jobRequestA, .digestRead, true⟩
def runningSlot (kind : JobKind) (enable bound : Bool) (length : Nat) : JobSlot :=
  { JobSlot.reset with
    config := { JobSlot.reset.config with enable := enable, kind := kind, windowBound := bound, length := length }
    state := .running }
def withRun (kind : JobKind) (enable bound : Bool) (length : Nat) (r : JobRun) : State :=
  { withJob (runningSlot kind enable bound length) with run := some r }

def entryAt (slot : Addr) (d : Disposition) : TrackerEntry := ⟨slot, 5, 4, d, some 8, 1, 0x100, 0, 1, 0⟩
def record0 : CaptureRecord := plainRecord State.reset .noted 6 .read 0 none

def rawSegment (op : Op) : Segment := ⟨0x80#32, op, .raw, .inProgress, .plain, []⟩
def pendingRaw (id : Nat) (src : Source) (st : SegState) : PendingEntry :=
  ⟨id, src, good, .performed, none, [{ rawSegment (.read 4) with state := st, data := [1, 2, 3, 4] }]⟩
def accessOf (h : Handler) : Access := ⟨good, h⟩

/-! ### Ill-formed commands -/

theorem test_badFrame_of_a_good_period_is_ill_formed :
    (Instr.badFrame ⟨[0x41, 0x00, crc8 [0x41, 0x00]], 0⟩).wf = false := by decide +kernel
theorem test_badFrame_of_a_read_period_is_ill_formed : (Instr.badFrame ⟨[0x00], 0⟩).wf = false := by decide +kernel
theorem test_badFrame_of_a_short_period_is_well_formed : (Instr.badFrame ⟨[0x41], 3⟩).wf = true := by decide +kernel
theorem test_badCommand_with_a_known_code_is_ill_formed : (Instr.badCommand 0x33 [1]).wf = false := by decide +kernel
theorem test_badCommand_with_code_zero_is_ill_formed : (Instr.badCommand 0x00 []).wf = false := by decide +kernel
theorem test_badCommand_with_46_parameters_is_ill_formed :
    (Instr.badCommand 0x80 (List.replicate 46 0)).wf = false := by decide +kernel
theorem test_badCommand_with_an_unknown_code_is_well_formed :
    (Instr.badCommand 0x80 [1, 2]).wf = true := by decide +kernel

/-! ### The manual's values -/

theorem test_crc_of_31h_to_39h :
    crc8 [0x31, 0x32, 0x33, 0x34, 0x35, 0x36, 0x37, 0x38, 0x39] = 0xF4 := by decide +kernel
theorem test_stop_frame_is_read :
    examine ⟨[0x33, 0x01, 0x07, crc8 [0x33, 0x01, 0x07]], 0⟩ = .command (.stop 7) := by decide +kernel
theorem test_write_mask_frame_is_read :
    examine ⟨[0x14, 0x03, 0x05, 0x34, 0x12, crc8 [0x14, 0x03, 0x05, 0x34, 0x12]], 0⟩
      = .command (.writeMask 5 0x1234) := by decide +kernel
theorem test_wrong_crc_is_a_bad_frame :
    examine ⟨[0x33, 0x01, 0x07, crc8 [0x33, 0x01, 0x07] ^^^ 1], 0⟩ = .badFrame := by decide +kernel
theorem test_wrong_length_is_a_bad_frame :
    examine ⟨[0x33, 0x00, crc8 [0x33, 0x00]], 0⟩ = .badFrame := by decide +kernel
theorem test_unknown_code_is_a_bad_command :
    examine ⟨[0x80, 0x00, crc8 [0x80, 0x00]], 0⟩ = .badCommand := by decide +kernel
theorem test_cipher_block :
    aes128 ((List.range 16).map natByte) ((List.range 16).map fun k => natByte (17 * k)) =
      [0x69, 0xC4, 0xE0, 0xD8, 0x6A, 0x7B, 0x04, 0x30, 0xD8, 0xCD, 0xB7, 0x80, 0x70, 0xB4, 0xC5, 0x5A] := by
  decide +kernel
theorem test_digest_of_31h_to_38h :
    ~~~(digestWords digestStart [0x3837363534333231#64]) = 0x9AE0DAAF#32 := by decide +kernel

/-! ### Small effects -/

theorem test_start_wants_a_key :
    flagOf (after (.start 3 0) (withService (serviceIn .idle (keyOf .ready 0 0) (keyOf .empty 0 0)))) .keyWanted
      = true := by decide +kernel
theorem test_stop_makes_the_slot_retiring :
    (after (.stop 3) (withService (running .ready))).services[3].slotA.state = .retiring := by decide +kernel
theorem test_load_flips_a_starved_service :
    (after (.loadKey 3 1 word7) (withService (serviceIn .starved (keyOf .active 0 0) (keyOf .empty 0 0)))).services[3].slotB.state
      = .active := by decide +kernel
theorem test_purge_withholds :
    (after .keyPurge (withService (running .ready))).services[3].state = .withholding := by decide +kernel
theorem test_expiry_of_the_last_tick_flips :
    (settled (after .tick (withService (running .ready)))).services[3].slotB.state = .active := by decide +kernel
theorem test_expiry_of_the_last_tick_withholds :
    (settled (after .tick (withService (running .empty)))).services[3].state = .withholding := by decide +kernel
theorem test_raw_read_is_taken :
    (after (.takeRequest [good]) (withAperture rawEntry)).waiting.length = 1 := by decide +kernel
theorem test_unaligned_read_is_captured :
    (after (.takeRequest [unaligned]) State.reset).capture.map (·.kind) = [.illFormed] := by decide +kernel
theorem test_read_capture_of_an_empty_queue : statusOf (after .readCapture State.reset) = some 0x0C := by
  decide +kernel
theorem test_path_reset_is_reported : flagOf (after .pathReset State.reset) .pathResetDone = true := by
  decide +kernel
theorem test_accept_local_is_refused_in_local : statusOf (after .acceptLocal State.reset) = some 0x06 := by
  decide +kernel
theorem test_no_word_spells_a_command (n w : Nat) : decodeTableWord n w = none := rfl

/-! ### Witnesses of the statements' hypotheses -/

theorem witness_StepRunsTheFrontCommand :
    { State.reset with pending := [.tick] }.pending = [Instr.tick] := rfl
theorem witness_IdleStepPassesAnEdge :
    State.reset.pending = [] ∧ { State.reset with inReset := true }.inReset = true ∧
    State.reset.time.division + 1 < State.reset.time.prescale * State.reset.time.divider ∧
    (let s := { State.reset with time := { State.reset.time with division := 26999 } }
     s.pending = [] ∧ s.inReset = false ∧
       (settled s).time.prescale * (settled s).time.divider ≤ (settled s).time.division + 1) := by
  decide +kernel
theorem witness_tick_source :
    tickSource State.reset.time.state = .localOscillator ∧
    tickSource (inState .locked false).time.state = .stationReference ∧
    clockEdge .localOscillator (inState .locked false) = inState .locked false ∧
    (clockEdge .stationReference (inState .locked false)).time.division = 1 ∧
    State.reset.tickOpen = false := by decide +kernel
theorem witness_ResetAndPowerUp : (after .powerUp State.reset).inReset = true := by decide +kernel
theorem witness_ResetHoldsEveryBlock :
    { State.reset with selectIgnored := true }.selectIgnored = true ∧
    (after .resetAssertion State.reset).inReset = true ∧ Instr.readPath.code ≠ none ∧
    examine ⟨[0x41], 0⟩ = .badFrame ∧ (Instr.badCommand 0x80 []).wf = true := by decide +kernel
theorem witness_CommandsThatAreNoEventDoNothing :
    State.reset.time.refPresent = false ∧ (inState .local false).time.refPresent = true ∧
    State.reset.time.windowOpen = false ∧
    { State.reset with time := Timebase.reset true true }.time.windowOpen = true ∧
    State.reset.purgeHeld = false ∧ { State.reset with purgeHeld := true }.purgeHeld = true ∧
    State.reset.inReset = false ∧ examine ⟨[0x00], 0⟩ ≠ .badFrame ∧
    (Instr.badCommand 0x00 []).wf = false := by decide +kernel
theorem witness_TakeRequestAlternatesBetweenSources :
    (State.reset.inReset = false ∧ readyUpstream (settled State.reset) = none ∧
      readyJob (settled State.reset) = none) ∧
    (let u := settled (presented good State.reset)
     readyUpstream u = some good ∧ readyJob u = none) ∧
    (let u := settled { presented good State.reset with run := some jobRun }
     readyUpstream u = some good ∧ readyJob u = some jobRun ∧ u.lastSource = .job) ∧
    (let u := settled { State.reset with run := some jobRun }
     readyJob u = some jobRun ∧ readyUpstream u = none) ∧
    (let u := settled { presented good State.reset with run := some jobRun, lastSource := .upstream }
     readyUpstream u = some good ∧ readyJob u = some jobRun ∧ u.lastSource = .upstream) := by
  decide +kernel
theorem witness_RawRequestIsHandedUnchanged :
    (let u := settled (presented good State.reset)
     u.upstream = [good] ∧ canTake u .upstream good = true ∧ readyJob u = none ∧
       classify u .upstream good = ⟨.performed, none, none⟩) ∧
    (let u := settled (presented good (withAperture rawEntry))
     canTake u .upstream good = true ∧ readyJob u = none ∧
       classify u .upstream good = ⟨.performed, some ⟨0, 0x100, .raw⟩, none⟩) := by decide +kernel
/-- A request performed in a sample aperture, and in a packet aperture within one slot and across two. -/
theorem witness_requests_in_views :
    (let u := settled (presented good (withAperture
        { rawEntry with view := .sample, backing := 0x40, width := 12, depth := 10 }))
     u.upstream = [good] ∧ canTake u .upstream good = true ∧ readyJob u = none ∧
       classify u .upstream good =
         ⟨.performed, some ⟨0, 0x100, .sample 0x40 12 10 0xFFFF⟩, none⟩) ∧
    ∀ n ∈ [4, 16],
      let r := { good with op := .read n }
      let u := settled (presented r (withAperture { rawEntry with view := .packet }))
      u.upstream = [r] ∧ canTake u .upstream r = true ∧ readyJob u = none ∧
        classify u .upstream r = ⟨.performed, some ⟨0, 0x100, .packet 0 .clear⟩, none⟩ ∧
        (cutSegments (some ⟨0, 0x100, .packet 0 .clear⟩) r).map (·.place) =
          if n = 4 then [.packet 0x00100000 16] else [.packet 0x00100000 16, .packet 0x001000C0 0] := by
  decide +kernel
theorem witness_RefusedRequestMakesNoAccess :
    (let u := settled (presented unaligned State.reset)
     u.upstream = [unaligned] ∧ canTake u .upstream unaligned = true ∧ readyJob u = none ∧
       illFormed .upstream unaligned = true ∧ (classify u .upstream unaligned).disposal ≠ .performed) ∧
    (let u := settled (presented good { State.reset with unmapped := .refuse })
     canTake u .upstream good = true ∧ classify u .upstream good = ⟨.refused, none, none⟩) ∧
    (let u := settled (presented good { State.reset with unmapped := .divert })
     canTake u .upstream good = true ∧ classify u .upstream good = ⟨.refused, none, some .unmapped⟩) := by
  decide +kernel
theorem witness_arbiterTakes :
    (let u := settled (presented good State.reset)
     arbiterTakes u .upstream good { u with upstream := [] }) ∧
    (let u := settled { State.reset with run := some jobRun }
     arbiterTakes u .job jobRequestA { u with run := some { jobRun with taken := true } }) := by
  refine ⟨⟨[], ?_, ?_, Or.inl ?_, rfl⟩, ⟨jobRun, ?_, ?_, ?_, ?_, Or.inl ?_, rfl⟩⟩ <;> decide +kernel
theorem witness_requests_of_both_sources :
    (∀ a ∈ [UnmappedAction.forward, .forwardNote],
      (classify { State.reset with unmapped := a } .job jobRequestA).disposal = .performed) ∧
    (classify { State.reset with unmapped := .forwardNote } .upstream good).record = some .unmapped ∧
    (∀ a ∈ [UnmappedAction.refuse, .divert],
      (classify { State.reset with unmapped := a } .job jobRequestA).disposal ≠ .performed) := by
  decide +kernel
theorem witness_ClassificationFollowsTheApertures :
    (let s := withAperture rawEntry
     illFormed .upstream good = false ∧ inRange s.apertures[0] good.address = true ∧
       (∀ j : ApertureNo, j ≠ 0 → inRange s.apertures[j] good.address = false) ∧
       inSet s.apertures[0].readSet good.initiator = true ∧ inSet s.apertures[0].readSet 7 = false) ∧
    (∀ i : ApertureNo, inRange State.reset.apertures[i] good.address = false) := by decide +kernel
theorem witness_SegmentsAreCutAtBoundaries :
    illFormed .job ⟨6, 0, .read 16, 0x100080#32⟩ = false ∧ 0x100 * 4096 ≤ (0x100080#32).toNat ∧
    (cutSegments (some ⟨0, 0x100, .sample 0 12 10 0⟩) ⟨6, 0, .read 16, 0x100080#32⟩).length = 2 ∧
    (cutSegments (some ⟨0, 0x100, .sample 0 12 10 0⟩) ⟨6, 0, .read 8, 0x100080#32⟩).length = 1 ∧
    (cutSegments (some ⟨0, 0x100, .packet 0 .null⟩) ⟨6, 0, .read 16, 0x100080#32⟩).length = 2 ∧
    (cutSegments (some ⟨0, 0x100, .packet 0 .null⟩) ⟨6, 0, .read 8, 0x100080#32⟩).length = 1 := by
  decide +kernel
theorem witness_AccessesAreIssuedInOrder :
    (settled State.reset).waiting = [] ∧
    (let w : Waiting := ⟨accessOf .absorbed, false⟩
     (settled { State.reset with waiting := [w] }).waiting = [w] ∧ w.paired = false) ∧
    (let w : Waiting := ⟨accessOf .absorbed, true⟩
     (settled { State.reset with waiting := [w] }).waiting = [w] ∧
       (settled { State.reset with waiting := [w, w] }).waiting = [w, w] ∧ w.paired = true) := by
  decide +kernel
theorem witness_blocks_are_handed_whole_or_split :
    (0x50 : Addr).toNat % 128 + 4 * 12 ≤ 128 ∧ 128 < (0x51 : Addr).toNat % 128 + 4 * 12 ∧
    (List.replicate 6 (0 : Word)).length = 12 / 2 := by decide +kernel
theorem witness_AnswersGoToTheOldestAccess :
    (settled State.reset).outstanding = [] ∧
    (settled { State.reset with outstanding := [accessOf .absorbed] }).outstanding = [accessOf .absorbed] ∧
    (let u := settled { State.reset with
        outstanding := [accessOf (.segment ⟨0, 0⟩ .lower)]
        pendingList := [pendingRaw 0 .upstream .inProgress] }
     u.outstanding = [accessOf (.segment ⟨0, 0⟩ .lower)] ∧
       segmentOf u ⟨0, 0⟩ = some (pendingRaw 0 .upstream .inProgress,
         { rawSegment (.read 4) with data := [1, 2, 3, 4] })) := by decide +kernel

/-- One access is outstanding for the one segment of a request in a sample or packet view. -/
def answering (h : Handler) (view : ViewCopy) (place : Place) (work : SegWork) : State :=
  { State.reset with
    outstanding := [accessOf h]
    pendingList := [⟨0, .upstream, good, .performed, some ⟨0, 0x100, view⟩,
      [⟨0x100080#32, .read 4, place, .inProgress, work, []⟩]⟩] }

/-- A merge entry that fetches for an item or for its claims. -/
def fetchingEntry (item : Option SegRef) (waits : List SegRef) (claims : List Nat) : MergeEntry :=
  { newMerge ⟨0, 10⟩ 0 item claims 0 with waits := waits }

theorem witness_AnswersGoToTheOldestAccess_handlers :
    (let u := settled (answering (.segment ⟨0, 0⟩ .lower) (.sample 0 12 10 0) (.sample ⟨0, 10⟩ 0 false)
       (.direct (freshIo ⟨0, 10⟩)))
     (segmentOf u ⟨0, 0⟩).map (fun x => (sampleCopy x.1, x.2.work)) =
       some (some ⟨0, 12, 10, 0⟩, .direct ⟨1, false, [], []⟩)) ∧
    (freshIo ⟨0x70, 10⟩).left = 2 ∧
    (∀ plan ∈ [ClearPlan.fromData, .asStored],
      let u := settled (answering (.segment ⟨0, 0⟩ .lower) (.packet 0x40 .null) (.packet 0 0) (.clear plan))
      (segmentOf u ⟨0, 0⟩).map (fun x => (x.2.place, x.2.work)) = some (.packet 0 0, .clear plan)) ∧
    (segmentOf (settled (answering (.header ⟨0, 0⟩) (.packet 0x40 .null) (.packet 0 4) (.clear .fetching)))
      ⟨0, 0⟩).isSome = true ∧
    (let u := settled { answering (.merge ⟨0, 10⟩ .lower) (.sample 0 12 10 0) (.sample ⟨0, 10⟩ 0 false)
       .merging with mergeTable := [fetchingEntry (some ⟨0, 0⟩) [] []] }
     mergeOf u ⟨0, 10⟩ = some (fetchingEntry (some ⟨0, 0⟩) [] [])) := by decide +kernel
theorem witness_completeMerge :
    (fetchingEntry (some ⟨0, 0⟩) [] []).state = .fetching ∧
    ((fetchingEntry none [] [0]).item = none ∧ (fetchingEntry none [] [0]).claims = 0 :: []) ∧
    ((fetchingEntry none [⟨0, 1⟩] []).item = none ∧ (fetchingEntry none [⟨0, 1⟩] []).claims = [] ∧
      (fetchingEntry none [⟨0, 1⟩] []).fetchFor = some 0) := by decide +kernel

/-- A failed claim fetch whose claimant has moved to the wait list finishes that claimant (log 11). -/
theorem test_failed_claim_fetch_finishes_the_claimant :
    (fetchFailed (fetchingEntry none [⟨0, 1⟩] [])
      { State.reset with mergeTable := [fetchingEntry none [⟨0, 1⟩] []] }).mergeTable.map (·.waits) = [[]] := by
  decide +kernel
theorem witness_entryStatus :
    (pendingRaw 0 .upstream .done).disposal = .performed ∧
    (∀ g ∈ (pendingRaw 0 .upstream .refused).segments, g.state ≠ .inProgress) ∧
    (∃ g ∈ (pendingRaw 0 .upstream .inProgress).segments, g.state = .inProgress) := by decide +kernel
theorem witness_ResponsesAreReleasedInOrder :
    (∀ x ∈ (settled State.reset).pendingList, entryOwner x ≠ .job) ∧
    (let e := pendingRaw 0 .upstream .inProgress
     (settled { State.reset with pendingList := [e] }).pendingList = [] ++ e :: [] ∧
       entryOwner e = .upstream 6 ∧ entryStatus e = none) ∧
    (entryStatus (pendingRaw 0 .upstream .done) = some .done ∧ (pendingRaw 0 .upstream .done).source = .upstream) ∧
    (entryStatus (pendingRaw 0 .job .fault) = some .fault ∧ entryOwner (pendingRaw 0 .job .fault) = .job ∧
      (pendingRaw 0 .job .fault).source = .job) := by decide +kernel

/-- A write segment of a sample view, in the one entry of the pending list. -/
def sampleState (full : Bool) (table : List MergeEntry) : State :=
  { State.reset with
    mergeTable := table
    pendingList := [⟨0, .upstream, good, .performed, some ⟨0, 0x100, .sample 0 12 10 0xFFFF⟩,
      [⟨0x100000#32, .write (List.replicate 8 ⟨0, 0xFF⟩), .sample ⟨0, 10⟩ 0 full, .inProgress, .plain, []⟩]⟩] }

theorem witness_WriteSegmentGoesOneOfFourWays :
    (∀ full : Bool, (segmentOf (sampleState full []) ⟨0, 0⟩).isSome = true ∧
      mergeOf (sampleState full []) ⟨0, 10⟩ = none ∧
      (segmentOf (sampleState full []) ⟨0, 0⟩).bind (fun x => sampleCopy x.1) = some ⟨0, 12, 10, 0xFFFF⟩ ∧
      (segmentOf (sampleState full []) ⟨0, 0⟩).map (fun x => x.2.place) = some (.sample ⟨0, 10⟩ 0 full)) ∧
    (mergeOf (sampleState false [newMerge ⟨0, 10⟩ 0 none [] 0]) ⟨0, 10⟩).isSome = true := by
  decide +kernel

/-- A request of two segments in a sample view, the first of them on the block at 0. -/
def pairEntry (second : Op) (work : SegWork) : PendingEntry :=
  ⟨0, .upstream, good, .performed, some ⟨0, 0x100, .sample 0 12 10 0xFFFF⟩,
    [⟨0x100038#32, .write [⟨0, 0xFF⟩], .sample ⟨0, 10⟩ 7 false, .inProgress, .merging, []⟩,
     ⟨0x100040#32, second, .sample ⟨40, 10⟩ 0 false, .inProgress, work, []⟩]⟩
def pairState (second : Op) (work : SegWork) (table : List MergeEntry) : State :=
  { State.reset with mergeTable := table, pendingList := [pairEntry second work], taken := 1 }

theorem witness_sample_reads_and_pairs :
    (mergeOf (pairState (.read 1) .plain []) ⟨0, 10⟩ = none ∧
      (mergeOf (pairState (.read 1) .plain [newMerge ⟨0, 10⟩ 0 none [] 0]) ⟨0, 10⟩).isSome = true ∧
      mergeOf (pairState (.read 1) .plain [newMerge ⟨0, 10⟩ 0 none [] 0]) ⟨40, 10⟩ = none ∧
      (mergeOf (pairState (.read 1) .plain [newMerge ⟨40, 10⟩ 0 none [] 0]) ⟨40, 10⟩).isSome = true) ∧
    ((segmentOf (pairState (.read 1) .plain []) ⟨0, 1⟩).map (fun x => x.2.op) = some (.read 1) ∧
      (segmentOf (pairState (.write [⟨0, 1⟩]) .plain []) ⟨0, 1⟩).map (fun x => x.2.op) =
        some (.write [⟨0, 1⟩])) ∧
    (segmentOf (pairState (.read 1) .unhanded []) ⟨0, 1⟩).map (fun x => (x.2.work, x.2.state)) =
      some (.unhanded, .inProgress) ∧
    (0 ∉ (newMerge ⟨0, 10⟩ 0 none [] 0).claims ∧ 0 ∈ (newMerge ⟨0, 10⟩ 0 none [0] 0).claims) := by
  decide +kernel
theorem witness_entries_turn :
    (let e : MergeEntry := { fetchingEntry none [⟨0, 0⟩] [] with state := .held }
     mergeReady e = true ∧ e.waits = ⟨0, 0⟩ :: []) ∧
    (let e : MergeEntry := { fetchingEntry none [] [] with state := .held }
     mergeReady e = true ∧ e.waits = [] ∧ e.claims = []) ∧
    (let e : MergeEntry := { fetchingEntry none [] [0] with state := .held }
     mergeReady e = true ∧ e.claims = 0 :: [] ∧ (entryOf (pairState (.read 1) .plain [e]) 0).isSome = true) ∧
    mergeReady (fetchingEntry none [] [0]) = false ∧
    (let s := pairState (.read 1) .unhanded [{ fetchingEntry none [⟨0, 0⟩] [] with state := .held }]
     (s.mergeTable.map (·.block)).Nodup ∧
       (s.mergeTable.map fun m => m.waits.length).sum ≤ s.pendingList.length ∧
       (mergeRun s).waiting.length = 2) := by
  decide +kernel
theorem witness_PackingPlacesEveryBit :
    (packWords 10 (Vector.replicate 32 0x3FF)).length = 10 / 2 ∧
    (∀ i : Fin 32, (Vector.replicate 32 (0x3FF : BitVec 12))[i].toNat < 2 ^ 10) ∧
    (∀ i : Fin 32, (Vector.replicate 32 (0xFF : BitVec 12))[i].toNat < 2 ^ 8) ∧
    (∀ i : Fin 32, (Vector.replicate 32 (0xFFF : BitVec 12))[i].toNat < 2 ^ 12) := by decide +kernel
theorem witness_LanesAreReducedExpandedAndMerged :
    (reduceLane 12 10 0xFFE).2 = true ∧ (reduceLane 12 10 0xFFD).2 = false ∧
    (reduceLane 8 8 0xFF).2 = false ∧ (0x3FF#12).toNat < 2 ^ 10 ∧
    segmentBits 2 [⟨0, 0x00⟩] 8 = 0 ∧ segmentBits 2 [⟨0, 0x01⟩] 8 = 0x00FF ∧
    segmentBits 2 [⟨0, 0xFF⟩] 12 = 0 := by decide +kernel

/-- A header with its sync value. -/
def header (pid : Pid) (code adaptation : BitVec 2) (length : Byte) : Header :=
  ⟨0, 0x47, pid, code, adaptation, 0, length⟩

theorem witness_MalformedHeadersAndPayloadStart :
    malformed (header 0x100 0 1 0) = false ∧ malformed (header 0x100 0 3 182) = false ∧
    malformed (header 0x100 0 3 183) = true ∧ malformed (header 0x100 0 2 183) = false ∧
    malformed (header 0x100 0 2 182) = true ∧ malformed (header 0x100 1 1 0) = true ∧
    malformed (header 0x100 0 0 0) = true ∧ payloadStart (header 0x100 0 3 182) = some 191 ∧
    (plainDecision .clear 0x100).disposition ≠ .null := by decide +kernel

/-- An opening of a packet with a PID and a key-phase code, adaptation control 01. -/
def opening (pid : Nat) (code : Nat) : List WriteWord :=
  [⟨wordOf [0, 0, 0, 0, 0x47, natByte (pid / 256), natByte pid, natByte (64 * code + 16)], 0xFF⟩, ⟨0, 0xFF⟩]

/-- A stream map entry of PID 0100h in a state with one service. -/
def mapped (t : Treatment) (v : Service) : State :=
  { withService v with
    streams := State.reset.streams.set 0
      ⟨true, 0x100, some 0x200, if t = .scramble then some 3 else none, t⟩ }

theorem witness_DispositionOfAnOpening_unmapped :
    proper [] = false ∧ malformed (openingHeader (opening 0x100 1)) = true ∧
    (proper (opening 0x100 0) = true ∧ malformed (openingHeader (opening 0x100 0)) = false ∧
      (openingHeader (opening 0x1F 0)).pid.toNat = 0x1F ∧ (openingHeader (opening 0x20 0)).pid.toNat = 0x20 ∧
      (openingHeader (opening 0x1FFF 0)).pid.toNat = 0x1FFF) ∧
    ((openingHeader (opening 0x100 2)).code = 2 ∧ (openingHeader (opening 0x100 3)).code = 3 ∧
      (openingHeader (opening 0x100 0)).code = 0 ∧ findInput State.reset 0x100 = none) := by
  decide +kernel
theorem witness_contents_of_an_entry :
    (∀ k < 24, (0x1F : BitVec 24).getLsbD k = decide (k < (List.replicate 5 (⟨0, 0⟩ : WriteWord)).length)) ∧
    ({ StreamEntry.reset with output := some 0x200 }.output = some 0x200 ∧
      StreamEntry.reset.output = none) := by decide +kernel
theorem witness_DispositionOfAnOpening_mapped :
    (∀ t ∈ [Treatment.clear, .null, .scramble],
      (findInput (mapped t (running .ready)) 0x100).map (·.treatment) = some t) ∧
    (findInput (mapped .scramble (running .ready)) 0x100).bind (·.service) = some 3 ∧
    activePhase (running .ready) = some .a ∧ (running .ready).state = .running ∧
    (serviceIn .starved (keyOf .active 0 0) (keyOf .empty 0 0)).state = .starved ∧
    activePhase (serviceIn .starved (keyOf .active 0 0) (keyOf .empty 0 0)) = some .a ∧
    (Service.reset.state = .idle ∧ Service.reset.policy = .null) ∧
    ({ Service.reset with policy := .clear }.state = .idle ∧
      { Service.reset with policy := .clear }.policy = .clear) ∧
    (serviceIn .withholding (keyOf .active 0 0) (keyOf .empty 0 0)).state = .withholding := by
  decide +kernel
theorem witness_openings_and_continuations :
    (∃ e : TrackerEntry, [entryAt 0 .clear].head? = some e ∧ e.slot = 0 ∧
      (∀ k < 24, (e.written ||| coveredWords 1 23).getLsbD k = true) ∧
      (e.written ||| coveredWords 1 22).getLsbD 23 = false) ∧
    (let s := { State.reset with tracker := (List.range 20).map fun k => entryAt (BitVec.ofNat 32 (192 * k)) .clear }
     20 ≤ s.tracker.length ∧ s.tracker.length ≤ 20 ∧ (∀ y ∈ s.tracker, y.slot ≠ 3840)) ∧
    (∀ d ∈ [plainDecision .clear 0x100, plainDecision .pass 0x100, plainDecision (.scramble 3 .a) 0x100,
        plainDecision .null 0x100],
      (openingEntry State.reset (pendingRaw 0 .upstream .inProgress) 5 0 d (opening 0x100 0)).disposition =
        d.disposition) := by
  refine ⟨⟨entryAt 0 .clear, ?_⟩, ?_, ?_⟩ <;> decide +kernel
theorem witness_clear_reads :
    (inSet 0x40#16 good.initiator = true ∧ inSet 0x20#16 good.initiator = false) ∧
    ((header 0x100 2 1 0).code = 2 ∧ malformed (header 0x100 2 1 0) = false ∧
      payloadStart (header 0x100 2 1 0) = some 8 ∧ payloadStart (header 0x100 3 2 183) = none ∧
      malformed (header 0x100 3 2 183) = false ∧ malformed (header 0x100 3 2 182) = true) ∧
    ((findOutput (mapped .scramble (running .ready)) 0x200).bind (·.service) = some 3 ∧
      ((findOutput (mapped .clear (running .ready)) 0x200).isSome = true ∧
        (findOutput (mapped .clear (running .ready)) 0x200).bind (·.service) = none) ∧
      findOutput State.reset 0x200 = none) ∧
    ((keySlot (running .empty) .b).state = .empty ∧ (keySlot (running .empty) .a).state ≠ .empty) := by
  decide +kernel
theorem witness_WordsThatAnOpeningWrites : (opening 0x100 0)[0]? = some ((opening 0x100 0).getD 0 ⟨0, 0⟩) := by
  decide +kernel
theorem witness_OrphanContinuationIsRefused : ∀ e ∈ State.reset.tracker, e.slot ≠ 0 := by decide +kernel
theorem witness_ReportsAreRecorded :
    State.reset.capture = [] ∧
    ({ State.reset with capture := List.replicate 47 record0 }.capture.length < 48 ∧
      { State.reset with capture := List.replicate 47 record0 }.capture ≠ []) ∧
    48 ≤ { State.reset with capture := List.replicate 48 record0 }.capture.length := by decide +kernel
theorem witness_ServiceChangesAndCloses :
    isScramble (entryAt 0 .clear).disposition = false ∧
    (entryAt 0 (.scramble 3 .a)).disposition = .scramble 3 .a ∧
    ((keyOf .retiring 1 1000).state = .retiring ∧ Service.reset.guard ≤ (keyOf .retiring 1 1000).age ∧
      (keyOf .retiring 1 1000).users ≤ 1) ∧
    (keyOf .active 1 0).state ≠ .retiring ∧ (keyOf .retiring 1 999).age < Service.reset.guard ∧
    1 < (keyOf .retiring 2 1000).users ∧
    (keyWanted (running .ready) = false ∧ keyWanted (running .empty) = true) := by decide +kernel

/-- A PENDING slot that may run, in a state with a priority boundary and a remembered slot. -/
def pendingJob (boundary : Nat) (remembered : JobNo) : State :=
  { withJob { JobSlot.reset with state := .pending } with boundary := boundary, remembered := remembered }

theorem witness_SelectionFollowsTheExamination :
    (withRun .fill true false 8 jobRun).jobs[2].state = .running ∧
    (∀ j : JobNo, eligible State.reset j = false) ∧
    ((∀ j : JobNo, (pendingJob 6 5).jobs[j].state ≠ .running) ∧ eligible (pendingJob 6 5) 2 = true ∧
      ∀ k : JobNo, k < 2 → eligible (pendingJob 6 5) k = false) ∧
    (∀ r : JobNo, eligible (pendingJob 2 r) 2 = true ∧
      (∀ k : JobNo, k.val < 2 → eligible (pendingJob 2 r) k = false) ∧
      ∀ k : JobNo, 2 ≤ k.val → eligible (pendingJob 2 r) k = true →
        (2 + 5 - r.val) % 6 ≤ (k.val + 5 - r.val) % 6) := by decide +kernel
/-- A packet aperture over the first granules, and a run of a kind at a phase. -/
def packetState : State := withAperture { Aperture.reset with valid := true, base := 0, limit := 4, view := .packet }
def runAt (kind : JobKind) (phase : JobPhase) (op : Op) : State :=
  withRun kind true false 48 ⟨2, jobRequest 2 op 0#32, phase, true⟩

theorem witness_requests_of_the_engine :
    (∀ kind ∈ [JobKind.fill, .convert, .sweep, .digest],
      (withJob (runningSlot kind true false 48)).jobs[2].config.kind = kind) ∧
    findAperture State.reset 0 = none ∧
    (findAperture packetState 0 = some 0 ∧ packetState.apertures[0].view = .packet) ∧
    findAperture (withAperture { Aperture.reset with valid := true, limit := 4, view := .raw }) 0 = some 0 := by
  decide +kernel
theorem witness_TriggersReachTheirSlots :
    State.reset.jobs[0].config.trigger ≠ .frame ∧ State.reset.jobs[0].state = .disabled ∧
    ({ JobSlot.reset with state := .idle }.config.trigger = .noTrigger ∧
      { JobSlot.reset with state := .idle }.state = .idle) ∧
    holdsRun .pending = true ∧ holdsRun .running = true ∧ holdsRun .suspended = true := by decide +kernel
/-- A trigger named for a slot reaches it whatever its trigger, and one lost to a busy slot is reported. -/
theorem test_trigger_of_a_busy_slot :
    flagOf (triggerSlot 2 (withRun .fill true false 8 jobRun)) .triggerOverflow = true ∧
    triggerSlot 2 State.reset = State.reset := by decide +kernel
theorem witness_JobResponsesMoveTheRun :
    (withRun .fill true false 1 jobRun).run = some jobRun ∧ jobRun.phase = .fillWrite ∧
    ((withRun .digest true false 1 digestRun).run = some digestRun ∧ digestRun.phase = .digestRead ∧
      (withRun .digest true false 1 digestRun).jobs[2].config.kind = .digest) ∧
    ((runningSlot .fill true false 1).config.length ≤ 0 + opLength jobRequestA.op) ∧
    (0 + opLength jobRequestA.op < (runningSlot .fill false true 2).config.length ∧
      (runningSlot .fill false true 2).config.enable = false) ∧
    ((runningSlot .fill true true 2).config.windowBound = true ∧ State.reset.time.windowOpen = false) ∧
    (runningSlot .fill true false 2).config.windowBound = false := by decide +kernel
/-- A unit whose header is clear and whose PID is mapped to SCRAMBLE by a RUNNING service. -/
def sweptUnit : List Word := wordOf [0, 0, 0, 0, 0x47, 0x01, 0x00, 0x10] :: List.replicate 23 0
def sweepState : State :=
  { runAt .sweep (.sweepSecond (sweptUnit.take 16)) (.read 8) with
    streams := State.reset.streams.set 4
      { StreamEntry.reset with valid := true, input := 0x100, treatment := .scramble, service := some 3 }
    services := State.reset.services.set 3 (running .ready) }

theorem witness_phases_of_a_run :
    (∀ phase ∈ [JobPhase.convertRead, .convertWrite, .sweepFirst, .sweepSecond [], .sweepOpening sweptUnit,
        .sweepContinuation], (runAt .sweep phase (.read 16)).run.map (·.phase) = some phase) ∧
    (let h := headerOf (sweptUnit.getD 0 0) (sweptUnit.getD 1 0)
     h.code = 0#2 ∧ findInput sweepState h.pid = some sweepState.streams[4] ∧
       sweepState.streams[4].treatment = .scramble ∧ sweepState.streams[4].service = some 3 ∧
       sweepState.services[3].state = .running) ∧
    findInput State.reset (headerOf (sweptUnit.getD 0 0) (sweptUnit.getD 1 0)).pid = none ∧
    ((runningSlot .sweep true false 24).config.length ≤ 0 + 24 ∧
      0 + 24 < (runningSlot .sweep true true 48).config.length) := by decide +kernel

/-- A sweep of two units with its window closed, the second read of the unit at a cursor answered. -/
def shutSweep (cursor : Nat) : State :=
  { runAt .sweep (.sweepSecond (sweptUnit.take 16)) (.read 8) with
    jobs := State.reset.jobs.set 2 { runningSlot .sweep true true 48 with cursor := cursor } }

/-- A skipped unit is read again after a closed window, but the last one ends the run (R160). -/
theorem test_sweep_is_suspended_at_its_unit :
    ((jobResponse .done (sweptUnit.drop 16) none (shutSweep 0)).jobs[2].state = .suspended ∧
      (jobResponse .done (sweptUnit.drop 16) none (shutSweep 0)).jobs[2].cursor = 0) ∧
    (jobResponse .done (sweptUnit.drop 16) none (shutSweep 24)).jobs[2].result.status = .done := by
  decide +kernel

/-- A rewrite goes on with no stopping point between its two writes, and counts its unit. -/
theorem test_sweep_rewrites_a_unit :
    (jobResponse .done (sweptUnit.drop 16) none sweepState).run.map (·.phase) =
      some (.sweepOpening sweptUnit) ∧
    (jobResponse .done [] none (runAt .sweep .sweepContinuation (.read 8))).jobs[2].swept = 1 := by
  decide +kernel
theorem witness_TickMovesEveryCounter :
    (withService (running .ready)).inReset = false ∧
    ((settled (withService (running .ready))).time.hold = false ∧ (running .ready).counter = 1) ∧
    (settled (inState .frozen true)).time.hold = true := by decide +kernel

theorem witness_settled :
    State.reset.tickOpen = false ∧
    ({ State.reset with tickOpen := true }.tickOpen = true ∧ State.reset.inReset = false) := by decide +kernel

/-- What a tick made due is carried out, and the tick is over. -/
theorem test_settled_closes_the_tick :
    settled { State.reset with
        tickOpen := true, tracker := [entryAt 0 .clear], time := { State.reset.time with tickCount := 9 } } =
      { setCause .captureReady { State.reset with
          capture := [⟨.abandoned, 4, .write, 0, 9, some 5, some 0x100, none, some .idle, none⟩]
          time := { State.reset.time with tickCount := 9 } } with tickOpen := false } := by decide +kernel

/-- The power-on state at a tick count, with a tracker entry last written at tick 0. -/
def agedState (count : BitVec 32) : State :=
  { State.reset with
    tickOpen := true, tracker := [entryAt 0 .clear]
    time := { State.reset.time with tickCount := count } }

theorem witness_AgedEntriesCloseAndGuardedSlotsRetire :
    ((agedState 9).tickOpen = true ∧ (agedState 9).tracker = [] ++ entryAt 0 .clear :: [] ∧
      (agedState 9).idleLimit < ((agedState 9).time.tickCount - (entryAt 0 .clear).lastWrite).toNat) ∧
    (∀ x ∈ (agedState 8).tracker, ((agedState 8).time.tickCount - x.lastWrite).toNat ≤ (agedState 8).idleLimit) ∧
    State.reset.tickOpen = false ∧
    ((keyOf .retiring 0 1000).state = .retiring ∧ Service.reset.guard ≤ (keyOf .retiring 0 1000).age ∧
      (keyOf .retiring 0 1000).users = 0) ∧
    (keyOf .ready 0 0).state ≠ .retiring ∧ (keyOf .retiring 0 999).age < Service.reset.guard ∧
    (keyOf .retiring 1 1000).users ≠ 0 := by decide +kernel

/-- A service whose counter has just fallen to 0. -/
def expiringState (v : Service) : State := { withService v with tickOpen := true, expiring := [3] }
def expiredAs (v : Service) : Service :=
  (retireBoth 3 { expiringState v with expiring := (expiringState v).expiring.erase 3 }).services[3]

theorem witness_ExpiryFlipsExtendsOrWithholds :
    (3 : ServiceNo) ∉ State.reset.expiring ∧
    (3 : ServiceNo) ∈ (expiringState (running .ready)).expiring ∧
    ((expiredAs (running .ready)).state = .running ∧ nextState (expiredAs (running .ready)) = some .ready) ∧
    (nextState (expiredAs { running .empty with limit := 1 }) ≠ some .ready ∧
      (expiredAs { running .empty with limit := 1 }).extension < (expiredAs { running .empty with limit := 1 }).limit) ∧
    ((expiredAs (running .empty)).limit ≤ (expiredAs (running .empty)).extension ∧
      nextState (expiredAs (running .empty)) ≠ some .ready) := by decide +kernel
theorem witness_flips :
    ((serviceIn .starved (keyOf .active 0 0) (keyOf .ready 0 0)).slotA.state = .active) ∧
    ((serviceIn .withholding (keyOf .ready 0 0) (keyOf .active 0 0)).slotA.state ≠ .active ∧
      (serviceIn .withholding (keyOf .ready 0 0) (keyOf .active 0 0)).slotB.state = .active) ∧
    (Service.reset.slotA.state ≠ .active ∧ Service.reset.slotB.state ≠ .active) ∧
    (expiredAs Service.reset).state = .idle := by decide +kernel
theorem witness_ReferenceEventsMoveTheState :
    (let s := { State.reset with time := { State.reset.time with state := .acquiring, qualification := 64 } }
     s.time.state = .acquiring ∧ 64 ≤ s.time.qualification) ∧
    State.reset.time.state ≠ .acquiring ∧
    ((inState .holdover false).time.state = .holdover ∧ (inState .holdover false).time.countdown = 0) ∧
    State.reset.time.state ≠ .holdover ∧
    (∀ t ∈ [TimeState.local, .acquiring, .locked, .holdover, .frozen],
      (inState t false).time.refPresent = true ∧ (settled (inState t false)).time.state = t) ∧
    (∀ t ∈ [TimeState.local, .acquiring, .locked, .holdover, .frozen],
      let s := { State.reset with time := { State.reset.time with state := t } }
      s.time.refPresent = false ∧ (settled s).time.state = t) := by decide +kernel
theorem witness_FrameAndWindowReachTheJobs :
    State.reset.time.windowOpen = false ∧
    (let s := { withRun .fill true true 8 jobRun with time := Timebase.reset false true }
     s.time.windowOpen = true ∧ (settled s).run = some jobRun ∧
       (settled s).jobs[jobRun.slot].config.windowBound = true ∧ jobRun.taken = false ∧
       jobRun.phase ≠ .sweepContinuation) ∧
    (let s := { withRun .fill true false 8 jobRun with time := Timebase.reset false true }
     (settled s).run = some jobRun ∧ (settled s).jobs[jobRun.slot].config.windowBound = false) := by
  decide +kernel
theorem witness_KeyPurgeEmptiesEverySlot :
    listening (withService (running .ready)) ∧
    ((settled { State.reset with tracker := [entryAt 0 .clear, entryAt 192 (.scramble 3 .a)] }).tracker.map
      (·.slot)).Nodup ∧
    (State.reset.inReset = false ∧ State.reset.purgeHeld = false) ∧
    { State.reset with purgeHeld := true }.purgeHeld = true ∧
    ((withService (running .ready)).services[3].state ≠ .idle ∧ keyWanted (running .ready) = false) := by
  unfold listening; decide +kernel

/-- The records of a purge meet an empty queue, and a full one. -/
theorem witness_records_of_a_purge :
    0 < ([entryAt 192 (.scramble 3 .a)].filter fun e => isScramble e.disposition).length ∧
    State.reset.capture = [] ∧
    48 < (List.replicate 48 record0).length +
      ([entryAt 192 (.scramble 3 .a)].filter fun e => isScramble e.disposition).length := by decide +kernel
/-- The part listens to commands after reset. -/
theorem witness_listening : listening State.reset ∧ settled State.reset = State.reset := by
  unfold listening; decide +kernel

/-- The power-on state with a response held. -/
def holding (f : List Byte) : State := { State.reset with heldResponse := some f }

theorem witness_SelectPeriodsAreAnswered :
    (settled State.reset).heldResponse = none ∧ (settled (holding [1, 2, 3])).heldResponse = some [1, 2, 3] ∧
    ([1, 2, 3] : List Byte).length < 32 / 8 ∧ 24 / 8 ≤ ([1, 2, 3] : List Byte).length ∧
    examine ⟨[0x41], 0⟩ = .badFrame ∧ (Instr.badCommand 0x80 []).wf = true := by decide +kernel
theorem witness_PathSettingsAndReads :
    4 ≤ (4 : Byte).toNat ∧ (3 : Byte) = unmappedByte .divert ∧ (255 : Byte) ≠ 0 ∧
    (11 : Byte) = natByte (11 : ApertureNo).val ∧ 12 ≤ (12 : Byte).toNat ∧ 2 ≤ (2 : Byte).toNat := by decide
theorem witness_MasksAreWrittenAndRead :
    15 < (16 : Byte).toNat ∧ (15 : Byte).toNat = (15 : Initiator).val ∧
    (withAperture { rawEntry with view := .sample }).apertures[0].view = .sample := by decide +kernel

/-- WRITE_APERTURE of a RAW aperture of granules 100h to 103h. -/
def rawParams (entry : Byte) : ApertureParams := ⟨entry, 1, 0x100, 0x104, 0, 0x40, 0x40, 0, 0, 0, 0, 0, 0⟩

theorem witness_WriteApertureChecksAndStores :
    statusOf (after (.writeAperture (rawParams 12)) State.reset) = some 0x03 ∧
    statusOf (after (.writeAperture (rawParams 11)) State.reset) = some 0x00 ∧
    statusOf (after (.writeAperture (rawParams 11)) (withAperture rawEntry)) = some 0x04 ∧
    statusOf (after (.writeAperture (rawParams 0))
      { State.reset with mergeTable := [newMerge ⟨0, 10⟩ 0 none [] 0] }) = some 0x0B := by decide +kernel

/-- A limit of 0 is accepted in an entry that is not valid (log 35), and refused in a valid one (R28). -/
theorem test_limit_of_zero :
    statusOf (after (.writeAperture { rawParams 11 with valid := 0, limit := 0 }) State.reset) = some 0x00 ∧
    statusOf (after (.writeAperture { rawParams 11 with limit := 0 }) State.reset) = some 0x03 := by
  decide +kernel

/-- WRITE_STREAM of PID 0100h, treatment CLEAR. -/
def clearParams (entry : Byte) : StreamParams := ⟨entry, 1, 0x100, 0, 0, 0, 0, 0⟩

theorem witness_WriteAndReadStream :
    statusOf (after (.writeStream (clearParams 48)) State.reset) = some 0x03 ∧
    statusOf (after (.writeStream (clearParams 47)) State.reset) = some 0x00 ∧
    statusOf (after (.writeStream (clearParams 47)) (mapped .clear Service.reset)) = some 0x05 ∧
    47 < (48 : Byte).toNat ∧ (47 : Byte).toNat = (47 : StreamNo).val := by decide +kernel
theorem witness_WriteServiceSetsTheFourValues :
    statusOf (after (.writeService ⟨23, 10, 9, 15, 1⟩) State.reset) = some 0x00 ∧
    statusOf (after (.writeService ⟨24, 10, 9, 15, 1⟩) State.reset) = some 0x03 ∧
    statusOf (after (.writeService ⟨23, 10, 10, 15, 1⟩) State.reset) = some 0x03 := by decide +kernel
theorem witness_ReadServiceReturnsTheContext :
    23 < (24 : Byte).toNat ∧ (23 : Byte).toNat = (23 : ServiceNo).val := by decide
theorem witness_LoadKeyLoadsFlipsOrResumes :
    (23 < (24 : Byte).toNat ∧ 1 < (2 : Byte).toNat ∧ phaseOf 1 = some .b) ∧
    { State.reset with purgeHeld := true }.purgeHeld = true ∧
    (keySlot (running .ready) .a).state = .active ∧ (keySlot (running .retiring) .b).state = .retiring ∧
    (keySlot (running .empty) .b).state = .empty ∧
    (let v := serviceIn .starved (keyOf .active 0 0) (keyOf .empty 0 0)
     (keySlot v .b).state = .empty ∧ activePhase v ≠ none) ∧
    (let v := serviceIn .withholding KeySlot.reset KeySlot.reset
     (keySlot v .b).state = .empty ∧ activePhase v = none) := by decide +kernel
theorem witness_StartStopAndFlip :
    (let v := serviceIn .idle (keyOf .ready 0 0) KeySlot.reset
     v.state = .idle ∧ (keySlot v .a).state = .ready ∧ (keySlot v .b).state ≠ .ready) ∧
    (running .ready).state ≠ .idle ∧
    ((running .ready).state = .running ∧ activePhase (running .ready) = some .a ∧
      nextState (running .ready) = some .ready) ∧
    ((running .empty).state = .running ∧ nextState (running .empty) ≠ some .ready) := by decide +kernel
theorem witness_WriteTimebaseAndAcceptLocal :
    statusOf (after (.writeTimebase ⟨1, 3, 1, 1⟩) State.reset) = some 0x03 ∧
    statusOf (after (.writeTimebase ⟨1, 128, 65535, 65535⟩) State.reset) = some 0x00 ∧
    (settled State.reset).time.state = .local ∧ (settled (inState .locked false)).time.state ≠ .local ∧
    (settled (inState .frozen true)).time.state = .frozen := by decide +kernel

/-- WRITE_JOB of a FILL of 24 words in slot 2. -/
def fillParams (enable : Byte) (length : BitVec 24) : JobParams :=
  ⟨2, enable, 0, 0, 0x1000, length, 5, 1, 0, 0, 6⟩

/-- The slot that a FILL of 24 words configures, in a state. -/
def fillSlot (st : JobState) : JobSlot :=
  { JobSlot.reset with
    config := ⟨true, .fill, 0, 0x1000, 24, 5, .command, false⟩
    state := st }

theorem witness_WriteJobStoresAndEnables :
    statusOf (after (.writeJob (fillParams 1 0)) State.reset) = some 0x03 ∧
    statusOf (after (.writeJob (fillParams 1 25)) (withJob (fillSlot .pending))) = some 0x0B ∧
    (after (.writeJob (fillParams 1 24)) State.reset).jobs[2].state = .idle ∧
    (after (.writeJob (fillParams 1 24)) (withJob (fillSlot .running))).jobs[2].state = .running ∧
    (after (.writeJob (fillParams 0 24)) (withJob (fillSlot .pending))).jobs[2].state = .disabled ∧
    (after (.writeJob (fillParams 0 24)) (withJob (fillSlot .suspended))).jobs[2].result.status = .aborted ∧
    (after (.writeJob (fillParams 0 24))
      { withJob (fillSlot .running) with run := some jobRun }).jobs[2].result.status = .aborted ∧
    (after (.writeJob (fillParams 0 24))
      { withJob (fillSlot .running) with run := some digestRun }).jobs[2].state = .running := by decide +kernel
theorem witness_ReadJobAndTriggerJob :
    5 < (6 : Byte).toNat ∧ (5 : Byte).toNat = (5 : JobNo).val ∧ (0xFF : Byte).toNat = 255 ∧
    1 < (2 : Byte).toNat ∧
    (after (.triggerJob 2) (withJob (fillSlot .idle))).jobs[2].state = .running := by decide +kernel
theorem witness_ReadCaptureAndClearOverrun :
    (settled State.reset).capture = [] ∧
    (settled { State.reset with capture := [record0] }).capture = record0 :: [] := by decide +kernel
theorem witness_EventCommands :
    statusOf (after (.clearEvents 31 15 15 7) State.reset) = some 0x00 ∧
    statusOf (after (.clearEvents 32 0 0 0) State.reset) = some 0x03 ∧
    groupOf 3 = some .timebase ∧ 3 < (4 : Byte).toNat ∧
    (2 ^ (groupCauses .timebase).length ≤ (8 : Byte).toNat ∧
      (7 : Byte).toNat < 2 ^ (groupCauses .timebase).length) := by decide +kernel
theorem witness_PathResetAnswersAndEmpties :
    (∃ r, (settled (withRun .fill true false 8 jobRun)).run = some r ∧ r.slot = 2) ∧
    (settled (withJob (fillSlot .pending))).jobs[2].state = .pending := by
  refine ⟨⟨jobRun, ?_⟩, ?_⟩ <;> decide +kernel

/-- The laws hold after reset, and a step from there answers a next state. -/
theorem witness_laws :
    WithinLimits State.reset ∧ HoldLaw State.reset ∧ ResetHolds State.reset ∧
    (∃ t, step State.reset = .next t) := by
  refine ⟨?_, ?_, ?_, _, rfl⟩
  · unfold WithinLimits; decide +kernel
  · unfold HoldLaw; decide +kernel
  · unfold ResetHolds; decide +kernel
theorem witness_MergeLaw : MergeLaw State.reset := by
  refine ⟨?_, ?_, ?_, ?_, ?_⟩ <;> intros <;> simp_all [State.reset]
theorem witness_GroupsRaised : ∀ g ∈ [Group.path, .keys, .jobs, .timebase],
    groupDue State.reset g = true → raisedOf State.reset g = true := by decide +kernel
theorem witness_UsersCounted :
    (State.reset.tracker.map (·.slot)).Nodup ∧
    ∀ i : ServiceNo, ∀ p ∈ [Phase.a, .b],
      (keySlot State.reset.services[i] p).users = usersOf State.reset i p := by decide +kernel
theorem witness_ServiceAndHoldLaws :
    (∀ i : ServiceNo, State.reset.services[i].guard < State.reset.services[i].period) ∧
    ∀ i : ServiceNo, activeLaw State.reset.services[i] := by unfold activeLaw; decide +kernel
theorem witness_OneRunning : ∀ j : JobNo, State.reset.jobs[j].state ≠ .running ∧ State.reset.run = none := by
  decide +kernel
theorem witness_TablesApart :
    (∀ i : ApertureNo, State.reset.apertures[i].valid = false) ∧
    ∀ i : StreamNo, State.reset.streams[i].valid = false := by decide +kernel
theorem witness_Coding :
    requestFrame (.stop 7) = some [0x33, 0x01, 0x07, crc8 [0x33, 0x01, 0x07]] ∧
    paramLength 0x80 = none ∧ paramLength 0x33 = some 1 := by decide +kernel

end Sys2Proof.Tests
end

section
/-! SUPPORT. The initiator write masks (R27): how an initiator number is read, what each mask command's
reply is for a good and for a bad number, and the mask that a sample view's copy carries. -/

namespace Sys2Proof.Machine

variable {initiator : Byte} {i : Initiator} {s : State}

/-! ### Initiator numbers (R27) -/

theorem initiatorOfByte_of_toNat_eq (h : initiator.toNat = i.val) : initiatorOfByte initiator = some i := by
  simp [initiatorOfByte, h]

theorem initiatorOfByte_of_gt (h : 15 < initiator.toNat) : initiatorOfByte initiator = none := by
  have hge : ¬ initiator.toNat < 16 := by omega
  simp [initiatorOfByte, hge]

/-! ### Replies of the mask commands (R27) -/

theorem writeMaskReply_of_toNat_eq (mask : BitVec 16) (h : initiator.toNat = i.val) :
    writeMaskReply initiator mask s = ⟨.ok, [], { s with masks := s.masks.set i mask }⟩ := by
  simp only [writeMaskReply, initiatorOfByte_of_toNat_eq h, done]

theorem writeMaskReply_of_gt (mask : BitVec 16) (h : 15 < initiator.toNat) :
    writeMaskReply initiator mask s = ⟨.badParameter, [], s⟩ := by
  simp only [writeMaskReply, initiatorOfByte_of_gt h, refuse]

theorem readMaskReply_of_toNat_eq (h : initiator.toNat = i.val) :
    readMaskReply initiator s = ⟨.ok, fieldBytes 2 s.masks[i], s⟩ := by
  simp only [readMaskReply, initiatorOfByte_of_toNat_eq h]

theorem readMaskReply_of_gt (h : 15 < initiator.toNat) :
    readMaskReply initiator s = ⟨.badParameter, [], s⟩ := by
  simp only [readMaskReply, initiatorOfByte_of_gt h, refuse]

/-! ### What the mask commands answer (R27, R175) -/

theorem exec_writeMask (initiator : Byte) (mask : BitVec 16) (s : State) :
    exec (.writeMask initiator mask) s = .next (requestPeriod 6 (writeMaskReply initiator mask) s) := rfl

theorem exec_readMask (initiator : Byte) (s : State) :
    exec (.readMask initiator) s = .next (requestPeriod 4 (readMaskReply initiator) s) := rfl

/-- WRITE_MASK answers what its reply gives; its request period has the 6 bytes of a frame with 3
parameter bytes. -/
theorem answers_writeMask {mask : BitVec 16} {st : PortStatus} {data : List Byte} {t : State}
    (hl : listening s) (hr : writeMaskReply initiator mask (settled s) = ⟨st, data, t⟩) :
    answers (.writeMask initiator mask) s st data t := by
  have hlen : (Instr.writeMask initiator mask).params.length = 3 :=
    (Laws.FrameCoding.writeMask initiator mask).1
  exact answers_of hl _ (exec_writeMask initiator mask s) (by rw [hlen]) hr

/-- READ_MASK answers what its reply gives; its request period has the 4 bytes of a frame with 1
parameter byte. -/
theorem answers_readMask {st : PortStatus} {data : List Byte} {t : State}
    (hl : listening s) (hr : readMaskReply initiator (settled s) = ⟨st, data, t⟩) :
    answers (.readMask initiator) s st data t := by
  have hlen : (Instr.readMask initiator).params.length = 1 := (Laws.FrameCoding.readMask initiator).1
  exact answers_of hl _ (exec_readMask initiator s) (by rw [hlen]) hr

/-! ### The mask at classification (R27, R31) -/

theorem copyOf_view_of_sample (n : ApertureNo) (i : Initiator) (h : s.apertures[n].view = .sample) :
    (copyOf s n i).view =
      .sample s.apertures[n].backing s.apertures[n].width s.apertures[n].depth s.masks[i] := by
  simp only [copyOf, h]

end Sys2Proof.Machine

namespace Sys2Proof.Proofs

open Sys2Proof Sys2Proof.Machine

/-- Settles O38: the number's range decides the reply of either command (R27), and the copy that a
request carries takes the mask of its initiator as the table holds it. -/
theorem masksAreWrittenAndRead : Obligations.MasksAreWrittenAndRead := by
  unfold Obligations.MasksAreWrittenAndRead
  refine fun s => ⟨?commands, fun n initiator hview => copyOf_view_of_sample n initiator hview⟩
  case commands =>
    rintro hl _ rfl initiator mask
    constructor
    · intro hbad
      exact ⟨answers_writeMask hl (writeMaskReply_of_gt mask hbad),
        answers_readMask hl (readMaskReply_of_gt hbad)⟩
    · intro i hi
      exact ⟨answers_writeMask hl (writeMaskReply_of_toNat_eq mask hi),
        answers_readMask hl (readMaskReply_of_toNat_eq hi)⟩

end Sys2Proof.Proofs
end

section
/-! SUPPORT. The header check and the payload start (R70): which headers are malformed, the first slot byte
of the payload by the adaptation control, the tracker entry of an opening that keeps its packet, and the
bytes of a slot that the keystream reaches. -/

namespace Sys2Proof.Machine

/-! ### Malformed headers (R70) -/

theorem malformed_iff (h : Header) :
    malformed h = true ↔
      h.sync ≠ 0x47#8 ∨ h.code = 1#2 ∨ h.adaptation = 0#2 ∨
      (h.adaptation = 3#2 ∧ 182 < h.length.toNat) ∨ (h.adaptation = 2#2 ∧ h.length.toNat ≠ 183) := by
  have hlength : h.length = 183#8 ↔ h.length.toNat = 183 := BitVec.toNat_inj.symm
  simp only [malformed, Bool.or_eq_true, Bool.and_eq_true, bne_iff_ne, beq_iff_eq, decide_eq_true_eq,
    or_assoc, ne_eq, hlength]

theorem length_le_of_not_malformed {h : Header} (hm : malformed h = false) (ha : h.adaptation = 3#2) :
    h.length.toNat ≤ 182 := by
  by_contra hlong
  have hbad : malformed h = true :=
    (malformed_iff h).mpr (.inr (.inr (.inr (.inl ⟨ha, Nat.lt_of_not_le hlong⟩))))
  simp [hm] at hbad

/-! ### The payload start, by the adaptation control (R70) -/

theorem payloadStart_of_no_field {h : Header} (ha : h.adaptation = 1#2) : payloadStart h = some 8 := by
  simp [payloadStart, ha]

theorem payloadStart_of_field_and_payload {h : Header} (ha : h.adaptation = 3#2) :
    payloadStart h = some (9 + h.length.toNat) := by
  simp [payloadStart, ha]

theorem payloadStart_of_field_only {h : Header} (ha : h.adaptation = 2#2) : payloadStart h = none := by
  simp [payloadStart, ha]

/-! ### The tracker entry of a kept packet (R73, R86) -/

theorem openingEntry_of_ne_null (s : State) (p : PendingEntry) (n : ApertureNo) (slot : Addr)
    {d : Decision} (ws : List WriteWord) (hd : d.disposition ≠ .null) :
    openingEntry s p n slot d ws =
      ⟨slot, n, p.request.initiator, d.disposition, payloadStart (openingHeader ws),
        (openingHeader ws).stamp, d.pid, (openingHeader ws).continuity, coveredWords 0 ws.length,
        s.time.tickCount⟩ := by
  unfold openingEntry
  cases hdisp : d.disposition with
  | null => exact absurd hdisp hd
  | clear => rfl
  | pass => rfl
  | scramble i phase => rfl

/-! ### Where the keystream begins (R70, R99) -/

theorem combine_of_lt {stream : List Byte} {start k : Nat} (b : Byte) (hk : k < start) :
    combine stream (some start) k b = b := by
  simp [combine, Nat.not_le.mpr hk]

theorem combine_of_le {stream : List Byte} {start k : Nat} (b : Byte) (hk : start ≤ k) :
    combine stream (some start) k b = b ^^^ stream.getD (k - start) 0 := by
  simp only [combine, if_pos hk]

end Sys2Proof.Machine

namespace Sys2Proof.Proofs

open Sys2Proof Sys2Proof.Machine

/-- Settles O20: the check of R70 bounds the adaptation length, so that a payload start stays inside the
slot; the tracker's entry takes it from the header, and the keystream combines from it on. -/
theorem malformedHeadersAndPayloadStart : Obligations.MalformedHeadersAndPayloadStart := by
  unfold Obligations.MalformedHeadersAndPayloadStart
  refine fun h => ⟨malformed_iff h, ?table, ?handed, ?reached⟩
  case table =>
    intro hm
    refine ⟨payloadStart_of_no_field, fun ha => ?_, payloadStart_of_field_only⟩
    have hlength := length_le_of_not_malformed hm ha
    exact ⟨payloadStart_of_field_and_payload ha, by omega, by omega⟩
  case handed =>
    rintro s p n slot d ws rfl hd
    simp only [openingEntry_of_ne_null s p n slot ws hd, and_self]
  case reached =>
    intro stream start k b hstart
    rw [hstart]
    exact ⟨combine_of_lt b, combine_of_le b⟩

end Sys2Proof.Proofs
end

section
/-! SUPPORT. READ_SERVICE (R111): how a service number is read, what the reply is for a good and for a bad
number, and the bytes of a service's context in the order of the manual. -/

namespace Sys2Proof.Machine

variable {service : Byte} {i : ServiceNo} {s : State}

/-! ### Service numbers (R110) -/

theorem serviceOfByte_of_toNat_eq (h : service.toNat = i.val) : serviceOfByte service = some i := by
  simp [serviceOfByte, h]

theorem serviceOfByte_of_gt (h : 23 < service.toNat) : serviceOfByte service = none := by
  have hge : ¬ service.toNat < 24 := by omega
  simp [serviceOfByte, hge]

/-! ### The bytes of the context (R111) -/

theorem serviceData_eq (v : Service) :
    serviceData v =
      [serviceStateByte v.state] ++ leBytes 2 v.period ++ leBytes 2 v.guard
        ++ [natByte v.limit, clearOrNullByte v.policy] ++ leBytes 2 v.counter ++ [natByte v.extension]
        ++ [boolByte (keyWanted v)] ++ fieldBytes 4 v.scrambled ++ fieldBytes 4 v.nulled
        ++ [keyStateByte v.slotA.state, natByte v.slotA.users] ++ leBytes 2 v.slotA.age
        ++ [keyStateByte v.slotB.state, natByte v.slotB.users] ++ leBytes 2 v.slotB.age := by
  simp only [serviceData, slotData, List.append_assoc]

/-! ### The reply and the answer of READ_SERVICE (R111, R175) -/

theorem readServiceReply_of_toNat_eq (h : service.toNat = i.val) :
    readServiceReply service s = ⟨.ok, serviceData s.services[i], s⟩ := by
  simp only [readServiceReply, serviceOfByte_of_toNat_eq h]

theorem readServiceReply_of_gt (h : 23 < service.toNat) :
    readServiceReply service s = ⟨.badParameter, [], s⟩ := by
  simp only [readServiceReply, serviceOfByte_of_gt h, refuse]

theorem exec_readService (service : Byte) (s : State) :
    exec (.readService service) s = .next (requestPeriod 4 (readServiceReply service) s) := rfl

/-- READ_SERVICE answers what its reply gives; its request period has the 4 bytes of a frame with 1
parameter byte. -/
theorem answers_readService {st : PortStatus} {data : List Byte} {t : State}
    (hl : listening s) (hr : readServiceReply service (settled s) = ⟨st, data, t⟩) :
    answers (.readService service) s st data t := by
  have hlen : (Instr.readService service).params.length = 1 := (Laws.FrameCoding.readService service).1
  exact answers_of hl _ (exec_readService service s) (by rw [hlen]) hr

end Sys2Proof.Machine

namespace Sys2Proof.Proofs

open Sys2Proof Sys2Proof.Machine

/-- Settles O42: the number's range decides the reply of READ_SERVICE, and the data of a good number are
the context of its service in the state the command finds, which the command leaves (R111). -/
theorem readServiceReturnsTheContext : Obligations.ReadServiceReturnsTheContext := by
  unfold Obligations.ReadServiceReturnsTheContext
  rintro service s hl _ rfl
  refine ⟨?refused, ?answered⟩
  case refused =>
    intro hbad
    exact answers_readService hl (readServiceReply_of_gt hbad)
  case answered =>
    rintro i hi _ rfl
    rw [← serviceData_eq]
    exact answers_readService hl (readServiceReply_of_toNat_eq hi)

end Sys2Proof.Proofs
end

section
/-! SUPPORT. The CRC-8 of frames (R176): a shift, a byte and a list of bytes; and the framing checks of R175,
which a frame with its own CRC passes. -/

namespace Sys2Proof

variable {code : Byte} {ps : List Byte} {p : Period} {n : Nat}

/-! ### The CRC register (R176) -/

/-- The bit that a shift drives out is the most significant bit of the register. -/
theorem crcShift_eq_of_msb (c : Byte) :
    crcShift c = if c.msb then (c <<< 1) ^^^ 0x07#8 else c <<< 1 := by
  rw [crcShift, BitVec.msb_eq_getLsbD_last]

theorem crcByte_eq_iterate (c b : Byte) : crcByte c b = crcShift^[8] (c ^^^ b) := rfl

@[simp] theorem crc8_nil : crc8 [] = 0 := rfl

/-- No complement follows the last byte: the CRC is the register itself. -/
theorem crc8_concat (bytes : List Byte) (b : Byte) : crc8 (bytes ++ [b]) = crcByte (crc8 bytes) b :=
  List.foldl_concat ..

/-! ### The framing checks (R175) -/

/-- What the first three checks of R175 ask of a request period that announces `n` parameter bytes. -/
structure Framed (p : Period) (n : Nat) : Prop where
  wholeBytes : p.extraBits = 0
  announced : (p.bytes.getD 1 0).toNat = n
  atMost : n ≤ 45
  length : p.bytes.length = 3 + n
  ownCrc : p.bytes.getD (n + 2) 0 = crc8 (p.bytes.take (n + 2))

/-- Past the framing checks, the command code table and the command's parameter length decide the outcome. -/
theorem Framed.examineRequest_eq (h : Framed p n) :
    examineRequest p = (paramLength (p.bytes.getD 0 0)).elim .badCommand fun m =>
      if n ≠ m then .badFrame
      else (commandOf (p.bytes.getD 0 0) ((p.bytes.drop 2).take n)).elim .badCommand .command := by
  have hlong : ¬ 3 + n < 3 := by omega
  have hfew : ¬ n > 45 := Nat.not_lt.mpr h.atMost
  simp only [examineRequest, h.wholeBytes, h.announced, h.length, h.ownCrc, hlong, hfew, ne_eq,
    not_true_eq_false, or_self, if_false]
  cases paramLength (p.bytes.getD 0 0) with
  | none => rfl
  | some m => cases commandOf (p.bytes.getD 0 0) ((p.bytes.drop 2).take n) <;> rfl

/-! ### A frame with its own CRC (R175, R176) -/

theorem frameOf_eq (code : Byte) (ps : List Byte) :
    frameOf code ps = (code :: BitVec.ofNat 8 ps.length :: ps) ++
      [crc8 (code :: BitVec.ofNat 8 ps.length :: ps)] := rfl

/-- A length of at most 45 is kept by its byte, and the last byte is the CRC of those before it. -/
theorem framed_frameOf (hps : ps.length ≤ 45) : Framed ⟨frameOf code ps, 0⟩ ps.length where
  wholeBytes := rfl
  announced := by
    have hbyte : ps.length % 2 ^ 8 = ps.length := Nat.mod_eq_of_lt (by omega)
    simpa [frameOf_eq] using hbyte
  atMost := hps
  length := by simp [frameOf_eq]; omega
  ownCrc := by simp [frameOf_eq]

theorem examine_frameOf (hcode : code ≠ 0) :
    examine ⟨frameOf code ps, 0⟩ = examineRequest ⟨frameOf code ps, 0⟩ := if_neg hcode

/-- A frame with its own CRC is no BAD_FRAME, when its code names no command or one of as many parameter
bytes as the frame has. -/
theorem examine_frameOf_ne_badFrame (hcode : code ≠ 0) (hps : ps.length ≤ 45)
    (hlength : paramLength code = none ∨ paramLength code = some ps.length) :
    examine ⟨frameOf code ps, 0⟩ ≠ .badFrame := by
  have hfirst : (frameOf code ps).getD 0 0 = code := rfl
  rw [examine_frameOf hcode, (framed_frameOf hps).examineRequest_eq, hfirst]
  rcases hlength with hunknown | hknown
  case inl =>
    rw [hunknown]
    exact PeriodKind.noConfusion
  case inr =>
    rw [hknown, Option.elim_some, if_neg (not_not_intro rfl)]
    cases commandOf code _ with
    | none => exact PeriodKind.noConfusion
    | some i => exact PeriodKind.noConfusion

end Sys2Proof

namespace Sys2Proof.Proofs

open Sys2Proof

/-- Settles O59: the register's start, its bytes and its shifts are the model's (R176), the check value is
computed, and a frame with its own CRC passes the framing checks of R175. -/
theorem crcOfFrames : Obligations.CrcOfFrames := by
  unfold Obligations.CrcOfFrames
  rintro shift hshift
  obtain rfl : shift = crcShift := hshift.trans (funext crcShift_eq_of_msb).symm
  refine ⟨crc8_nil, ?byte, by decide +kernel, ?frame⟩
  case byte =>
    intro bytes b
    rw [crc8_concat, crcByte_eq_iterate]
  case frame =>
    rintro code ps hcode hps hlength _ rfl
    exact examine_frameOf_ne_badFrame hcode hps hlength

end Sys2Proof.Proofs
end

section
/-! SUPPORT. The moves a step is made of. Each move changes one part of the state that a law speaks of,
under the guard the law needs; a step is a chain of moves, so that a law kept by every move is kept by every
step. -/

namespace Sys2Proof.Machine

/-! ### Guards -/

/-- What the laws of the blocks but `MergeLaw` speak of is as it was, but for the saturation counts and the
clock's counters, and the pending list has not outgrown its limit (R5). -/
structure OnPath (s t : State) : Prop where
  pending     : t.pending = s.pending
  inReset     : t.inReset = s.inReset
  apertures   : ∀ i : ApertureNo, uncounted t.apertures[i] = uncounted s.apertures[i]
  streams     : t.streams = s.streams
  tracker     : t.tracker = s.tracker
  services    : t.services = s.services
  timeState   : t.time.state = s.time.state
  hold        : t.time.hold = s.time.hold
  jobs        : t.jobs = s.jobs
  run         : t.run = s.run
  capture     : t.capture = s.capture
  flags       : t.flags = s.flags
  enables     : t.enables = s.enables
  raised      : t.raised = s.raised
  room        : s.pendingList.length ≤ 24 → t.pendingList.length ≤ 24

/-- The merge table, the pending list and the count of requests taken are as they were besides. -/
structure Aside (s t : State) : Prop extends OnPath s t where
  mergeTable  : t.mergeTable = s.mergeTable
  pendingList : t.pendingList = s.pendingList
  taken       : t.taken = s.taken

/-- A key slot with users is ACTIVE or RETIRING (R88). -/
def slotUsed (k : KeySlot) : Prop := 0 < k.users → k.state = .active ∨ k.state = .retiring

/-- A service's change keeps R88, R109 and R110, and no key slot gains or loses a user. -/
structure ServiceKept (v w : Service) : Prop where
  active : activeLaw v → activeLaw w
  guard  : v.guard < v.period → w.guard < w.period
  users  : ∀ p, (keySlot w p).users = (keySlot v p).users
  used   : ∀ p, slotUsed (keySlot v p) → slotUsed (keySlot w p)

/-- What R136 asks of a timebase. -/
def holdLaw (b : Timebase) : Prop :=
  ((b.state = .local ∨ b.state = .locked ∨ b.state = .holdover) → b.hold = false) ∧
  (b.state = .frozen → b.hold = true)

/-! ### Moves -/

/-- One move. A strict one that changes the memory path keeps the law of the merge table. -/
inductive Move (strict : Bool) : State → State → Prop
  | aside {s t : State} (h : Aside s t) : Move strict s t
  | path {s t : State} (h : OnPath s t) (hm : strict = true → MergeLaw s → MergeLaw t) : Move strict s t
  | cause (c : Cause) (s : State) : Move strict s (setCause c s)
  | cleared (c : Cause) (s : State) : Move strict s (clearCause c s)
  | enabled (g : Group) (set : List Cause) (s : State) : Move strict s (setEnables g set s)
  | acknowledged (g : Group) (s : State) : Move strict s (acknowledge g s)
  | captured (c : List CaptureRecord) (s : State) (h : s.capture.length ≤ 48 → c.length ≤ 48) :
      Move strict s { s with capture := c }
  | aperture (i : ApertureNo) (a : Aperture) (s : State) (hc : apertureConflict s i a = false)
      (hv : a.valid = true → a.base < a.limit) : Move strict s { s with apertures := s.apertures.set i a }
  | stream (i : StreamNo) (e : StreamEntry) (s : State) (h : streamDuplicate s i e = false) :
      Move strict s { s with streams := s.streams.set i e }
  | time (b : Timebase) (s : State) (h : holdLaw s.time → holdLaw b) : Move strict s { s with time := b }
  | services (v : Vector Service 24) (s : State) (h : ∀ i : ServiceNo, ServiceKept s.services[i] v[i]) :
      Move strict s { s with services := v }
  | closed (e : TrackerEntry) (s : State) (h : e ∈ s.tracker) : Move strict s (closeEntry e s)
  | abandoned (reason : CloseReason) (test : TrackerEntry → Bool) (s : State) :
      Move strict s (abandonWhere reason test s)
  | opened (e : TrackerEntry) (s : State)
      (h : ∀ i p, e.disposition = .scramble i p → (keySlot s.services[i] p).state = .active) :
      Move strict s (openEntry e s)
  | marked (x : List TrackerEntry) (s : State) (hs : x.map (·.slot) = s.tracker.map (·.slot))
      (hd : (s.tracker.map (·.slot)).Nodup → x.map (·.disposition) = s.tracker.map (·.disposition)) :
      Move strict s { s with tracker := x }
  | purged (s : State) (h : ∀ e ∈ s.tracker, isScramble e.disposition = false) :
      Move strict s { s with services := Vector.ofFn fun i : Fin 24 => purgedService s.services[i] }
  | emptied (s : State) : Move strict s { s with
      tracker := [], services := Vector.ofFn fun i : Fin 24 => withoutUsers s.services[i] }
  | jobs (v : Vector JobSlot 6) (s : State)
      (h : ∀ j : JobNo, v[j].state = .running ↔ s.jobs[j].state = .running) : Move strict s { s with jobs := v }
  | started (j : JobNo) (s : State) (h : engineFree s = true) : Move strict s (startRun j s)
  | moved (r r' : JobRun) (s : State) (h : s.run = some r) (hs : r'.slot = r.slot) :
      Move strict s { s with run := some r' }
  | left (j : JobNo) (x : JobSlot) (s : State)
      (h : s.jobs[j].state = .running ∨ ∃ r, s.run = some r ∧ r.slot = j) (hx : x.state ≠ .running) :
      Move strict s { putJob j x s with run := none }

/-- What a step does besides: the queue of commands gives its front, and the reset input acts (R180). -/
inductive Outer : State → State → Prop
  | queued (q : List Instr) (s : State) : Outer s { s with pending := q }
  | released (levels : Levels) (s : State) : Outer s (endReset levels s)
  | powered (s : State) : Outer s (powerOn s)

/-- A chain of moves. -/
def Moves (strict : Bool) : State → State → Prop := Relation.ReflTransGen (Move strict)

section
variable {strict : Bool}

theorem Moves.refl (s : State) : Moves strict s s := Relation.ReflTransGen.refl

theorem Moves.trans {s t u : State} (h : Moves strict s t) (h' : Moves strict t u) : Moves strict s u :=
  Relation.ReflTransGen.trans h h'

theorem Move.moves {s t : State} (h : Move strict s t) : Moves strict s t := Relation.ReflTransGen.single h

theorem Aside.moves {s t : State} (h : Aside s t) : Moves strict s t := (Move.aside h).moves

/-- A change of the memory path that keeps the law of the merge table. -/
theorem OnPath.moves {s t : State} (h : OnPath s t) (hm : MergeLaw s → MergeLaw t) : Moves strict s t :=
  (Move.path h fun _ => hm).moves

/-- A change of the memory path whose effect on the merge table is told elsewhere. -/
theorem OnPath.loose {s t : State} (h : OnPath s t) : Moves false s t :=
  (Move.path h fun hf => Bool.noConfusion hf).moves

/-- What every move keeps, every chain keeps. -/
theorem Moves.keep {P : State → Prop} (keep : ∀ s t, Move strict s t → P s → P t) {s t : State}
    (h : Moves strict s t) (hs : P s) : P t := by
  induction h with
  | refl => exact hs
  | tail _ hm ih => exact keep _ _ hm ih

/-- A fold of chains is a chain. -/
theorem moves_foldl {α : Type} (f : State → α → State) (h : ∀ s a, Moves strict s (f s a)) (l : List α)
    (s : State) : Moves strict s (l.foldl f s) :=
  fold_changes f Moves.refl (fun _ _ _ => Moves.trans) h l s

/-! ### Reports -/

theorem setCause_moves (c : Cause) (s : State) : Moves strict s (setCause c s) := (Move.cause c s).moves

theorem offer_moves (r : CaptureRecord) (s : State) : Moves strict s (offer r s) := by
  unfold offer
  dsimp only
  split
  case isTrue hroom =>
    have hcapture : Moves strict s { s with capture := s.capture ++ [r] } := by
      refine (Move.captured _ s fun _ => ?_).moves
      simp only [Config.captureLimit] at hroom
      simpa using hroom
    split
    · exact hcapture.trans (setCause_moves _ _)
    · exact hcapture
  case isFalse =>
    exact Moves.trans (t := { s with overrun := true })
      (Aside.moves ⟨⟨rfl, rfl, fun _ => rfl, rfl, rfl, rfl, rfl, rfl, rfl, rfl, rfl, rfl, rfl, rfl, id⟩,
        rfl, rfl, rfl⟩)
      (setCause_moves _ _)

end

end Sys2Proof.Machine
end

section
/-! SUPPORT. Chains of moves of the job engine and of the service key table (R107 to R163). -/

namespace Sys2Proof.Machine

variable {s : State} {strict : Bool}

/-! ### The job engine -/

/-- The engine holds a run of a slot (R144). -/
def Runs (s : State) (j : JobNo) : Prop := ∃ r, s.run = some r ∧ r.slot = j

/-- A job slot's new contents that leave it RUNNING or not as it was. -/
theorem putJob_moves {j : JobNo} {v : JobSlot} (h : v.state = .running ↔ s.jobs[j].state = .running) :
    Moves strict s (putJob j v s) := by
  refine (Move.jobs _ s fun k => ?_).moves
  by_cases hk : j = k
  case pos => subst hk; simpa using h
  case neg =>
    have hval : j.val ≠ k.val := fun e => hk (Fin.ext e)
    simp [hval]

/-- `putJob_moves` between two states that are not RUNNING. -/
theorem putJob_moves_of_ne {j : JobNo} {v : JobSlot} (hv : v.state ≠ .running)
    (hs : s.jobs[j].state ≠ .running) : Moves strict s (putJob j v s) :=
  putJob_moves (iff_of_false hv hs)

theorem select_moves (s : State) : Moves strict s (select s) := by
  unfold select
  split
  case isFalse => exact Moves.refl s
  case isTrue hfree =>
    split
    · exact (Move.started _ s hfree).moves
    · split
      case h_1 j _ =>
        exact Moves.trans (t := { s with remembered := j })
          (Aside.moves ⟨⟨rfl, rfl, fun _ => rfl, rfl, rfl, rfl, rfl, rfl, rfl, rfl, rfl, rfl, rfl, rfl, id⟩,
            rfl, rfl, rfl⟩)
          (Move.started j { s with remembered := j } hfree).moves
      · exact Moves.refl s

theorem triggerSlot_moves (j : JobNo) (s : State) : Moves strict s (triggerSlot j s) := by
  unfold triggerSlot
  dsimp only
  have marked : Moves strict s (putJob j { s.jobs[j] with overflow := true } s) := putJob_moves Iff.rfl
  have overflow := marked.trans (setCause_moves .triggerOverflow _)
  split
  case h_1 hidle => exact putJob_moves_of_ne JobState.noConfusion (by rw [hidle]; exact JobState.noConfusion)
  case h_2 => exact overflow
  case h_3 => exact overflow
  case h_4 => exact overflow
  case h_5 => exact Moves.refl s

theorem deliver_moves (t : Trigger) (s : State) : Moves strict s (deliver t s) := by
  refine moves_foldl _ (fun s j => ?_) _ s
  split
  · exact triggerSlot_moves j s
  · exact Moves.refl s

/-- A slot that is left is IDLE or DISABLED. -/
theorem endRun_moves {j : JobNo} (st : JobStatus) (f : Option (Status × Addr))
    (h : s.jobs[j].state = .running ∨ Runs s j) : Moves strict s (endRun j st f s) := by
  refine (Move.left j _ s h ?_).moves
  dsimp only
  split <;> exact JobState.noConfusion

theorem abortRun_moves {j : JobNo} (h : s.jobs[j].state = .running ∨ Runs s j) :
    Moves strict s (abortRun j s) := (endRun_moves _ _ h).trans (setCause_moves _ _)

theorem completeRun_moves {j : JobNo} (h : Runs s j) : Moves strict s (completeRun j s) :=
  (((endRun_moves _ _ (.inr h)).trans (setCause_moves _ _)).trans (deliver_moves _ _)).trans
    (select_moves _)

theorem faultRun_moves {j : JobNo} (st : Status) (r : Request) (a : Option ApertureNo) (h : Runs s j) :
    Moves strict s (faultRun j st r a s) :=
  (((endRun_moves _ _ (.inr h)).trans (offer_moves _ _)).trans (setCause_moves _ _)).trans
    (select_moves _)

theorem suspendRun_moves {j : JobNo} (h : Runs s j) : Moves strict s (suspendRun j s) :=
  (Move.left j { s.jobs[j] with state := .suspended } s (.inr h) JobState.noConfusion).moves.trans
    (select_moves _)

theorem present_moves {j : JobNo} (p : JobPhase × Request) (h : Runs s j) : Moves strict s (present j p s) := by
  obtain ⟨r, hr, rfl⟩ := h
  exact (Move.moved r ⟨r.slot, p.2, p.1, false⟩ s hr rfl).moves

theorem advance_moves (j : JobNo) (n : Nat) (s : State) : Moves strict s (advance j n s) := putJob_moves Iff.rfl

theorem stoppingPoint_moves {j : JobNo} (next : State → JobPhase × Request) (h : Runs s j) :
    Moves strict s (stoppingPoint j next s) := by
  unfold stoppingPoint
  dsimp only
  split
  · exact completeRun_moves h
  · split
    · exact (abortRun_moves (.inr h)).trans (select_moves _)
    · split
      · exact suspendRun_moves h
      · exact present_moves _ h

/-- A stopping point after the cursor has advanced (R156 to R159). -/
theorem advance_stoppingPoint_moves {j : JobNo} (n : Nat) (next : State → JobPhase × Request)
    (h : Runs s j) : Moves strict s (stoppingPoint j next (advance j n s)) :=
  (advance_moves j n s).trans (stoppingPoint_moves next h)

/-- `advance_stoppingPoint_moves` after a change of what the run has computed (R158, R159). -/
theorem putJob_stoppingPoint_moves {j : JobNo} {v : JobSlot} (n : Nat)
    (next : State → JobPhase × Request) (hv : v.state = s.jobs[j].state) (h : Runs s j) :
    Moves strict s (stoppingPoint j next (advance j n (putJob j v s))) :=
  (putJob_moves (by rw [hv])).trans (advance_stoppingPoint_moves n next h)

theorem jobDone_moves {r : JobRun} (data : List Word) (h : s.run = some r) :
    Moves strict s (jobDone r data s) := by
  have hruns : Runs s r.slot := ⟨r, h, rfl⟩
  unfold jobDone
  dsimp only
  split
  case h_1 => exact advance_stoppingPoint_moves _ _ hruns
  case h_2 => exact advance_stoppingPoint_moves _ _ hruns
  case h_3 => exact putJob_stoppingPoint_moves _ _ rfl hruns
  case h_4 => exact stoppingPoint_moves _ hruns
  case h_5 => exact stoppingPoint_moves _ hruns
  case h_6 =>
    split
    · exact stoppingPoint_moves _ hruns
    · split
      · exact suspendRun_moves hruns
      · exact advance_stoppingPoint_moves _ _ hruns
  case h_7 => exact present_moves _ hruns
  case h_8 => exact putJob_stoppingPoint_moves _ _ rfl hruns

theorem jobResponse_moves (st : Status) (data : List Word) (a : Option ApertureNo) (s : State) :
    Moves strict s (jobResponse st data a s) := by
  unfold jobResponse
  split
  case h_1 => exact Moves.refl s
  case h_2 r hr =>
    have hruns : Runs s r.slot := ⟨r, hr, rfl⟩
    split
    · exact jobDone_moves data hr
    · exact faultRun_moves _ _ _ hruns
    · exact faultRun_moves _ _ _ hruns
    · exact abortRun_moves (.inr hruns)

theorem windowCloses_moves (s : State) : Moves strict s (windowCloses s) := by
  unfold windowCloses
  split
  case h_1 => exact Moves.refl s
  case h_2 r hr =>
    split
    · exact suspendRun_moves ⟨r, hr, rfl⟩
    · exact Moves.refl s

theorem resetJobs_moves (s : State) : Moves strict s (resetJobs s) := by
  unfold resetJobs
  dsimp only
  refine Moves.trans (t := match s.run with | none => s | some r => abortRun r.slot s) ?ended ?idle
  case ended =>
    split
    case h_1 => exact Moves.refl s
    case h_2 r hr => exact abortRun_moves (.inr ⟨r, hr, rfl⟩)
  case idle =>
    refine moves_foldl _ (fun t j => ?_) _ _
    split
    case h_1 hp => exact putJob_moves_of_ne JobState.noConfusion (by rw [hp]; exact JobState.noConfusion)
    case h_2 hp => exact putJob_moves_of_ne JobState.noConfusion (by rw [hp]; exact JobState.noConfusion)
    all_goals exact Moves.refl t

theorem disableRunning_moves {j : JobNo} (h : s.jobs[j].state = .running) :
    Moves strict s (disableRunning j s) := by
  unfold disableRunning
  split
  case h_1 => exact Moves.refl s
  case h_2 =>
    split
    · exact (abortRun_moves (.inl h)).trans (select_moves _)
    · exact Moves.refl s

theorem actOnEnable_moves (j : JobNo) (s : State) : Moves strict s (actOnEnable j s) := by
  unfold actOnEnable
  dsimp only
  split
  case h_1 h => exact putJob_moves_of_ne JobState.noConfusion (by rw [h]; exact JobState.noConfusion)
  case h_2 => exact Moves.refl s
  case h_3 => exact Moves.refl s
  case h_4 h => exact putJob_moves_of_ne JobState.noConfusion (by rw [h]; exact JobState.noConfusion)
  case h_5 h => exact putJob_moves_of_ne JobState.noConfusion (by rw [h]; exact JobState.noConfusion)
  case h_6 h =>
    exact (putJob_moves_of_ne JobState.noConfusion (by rw [h]; exact JobState.noConfusion)).trans
      (setCause_moves _ _)
  case h_7 h => exact disableRunning_moves h

/-! ### Changes of one service -/

theorem ServiceKept.refl (v : Service) : ServiceKept v v := ⟨id, id, fun _ => rfl, fun _ => id⟩

theorem ServiceKept.trans {v w x : Service} (h : ServiceKept v w) (h' : ServiceKept w x) :
    ServiceKept v x :=
  ⟨h'.active ∘ h.active, h'.guard ∘ h.guard, fun p => (h'.users p).trans (h.users p),
    fun p => h'.used p ∘ h.used p⟩

/-- A change that leaves the slots, the state, P and G. -/
theorem serviceKept_of_slots {v w : Service} (ha : w.slotA = v.slotA) (hb : w.slotB = v.slotB)
    (hs : w.state = v.state) (hp : w.period = v.period) (hg : w.guard = v.guard) : ServiceKept v w where
  active h := by simpa only [activeLaw, activePhase, ha, hb, hs] using h
  guard h := by rwa [hp, hg]
  users p := by cases p <;> simp only [keySlot, ha, hb]
  used p h := by cases p <;> simpa only [keySlot, ha, hb] using h

/-- A RETIRING slot without users becomes EMPTY (R123). -/
theorem serviceKept_emptied {v : Service} {p : Phase} (h : retireDue v (keySlot v p) = true) :
    ServiceKept v (withKeySlot p (emptied (keySlot v p)) v) := by
  obtain ⟨⟨hstate, -⟩, husers⟩ : ((keySlot v p).state = .retiring ∧ v.guard ≤ (keySlot v p).age) ∧
      (keySlot v p).users = 0 := by
    simpa [retireDue] using h
  cases p <;> simp only [keySlot] at hstate husers <;> constructor
  case a.active | b.active =>
    simp +contextual [activeLaw, activePhase, withKeySlot, emptied, keySlot, hstate]
  case a.guard | b.guard => exact id
  case a.users | b.users => intro q; cases q <;> rfl
  case a.used | b.used =>
    intro q
    cases q <;> simp [slotUsed, keySlot, withKeySlot, emptied, husers]

/-- A flip leaves one ACTIVE slot, and the one it retires keeps its users (R118). -/
theorem serviceKept_flipped {v : Service} {p : Phase} (h : activePhase v = some p) :
    ServiceKept v (flipped p v) := by
  constructor
  case active =>
    intro _
    cases p <;> simp [activeLaw, flipped, withKeySlot, otherPhase, keySlot, activePhase]
  case guard => cases p <;> exact id
  case users => intro q; cases p <;> cases q <;> rfl
  case used =>
    intro q _ _
    cases p <;> cases q <;> simp [flipped, withKeySlot, otherPhase, keySlot]

/-- A service that counts has its ACTIVE slot when it starves or withholds (R119). -/
theorem serviceKept_expired {v : Service} (hc : counting v = true) (st : ServiceState) (n c : Nat)
    (hst : st ≠ .idle) : ServiceKept v { v with state := st, extension := n, counter := c } where
  active h := by
    obtain ⟨hone, hactive, -⟩ := h
    have hcounts : v.state = .running ∨ v.state = .starved := by simpa [counting] using hc
    exact ⟨hone, fun _ => hactive hcounts, fun hidle => absurd hidle hst⟩
  guard := id
  users _ := rfl
  used _ := id

/-- An EMPTY or READY slot takes a word (R112). -/
theorem serviceKept_loaded {v : Service} {p : Phase} (word : ControlWord)
    (h : (keySlot v p).state = .empty ∨ (keySlot v p).state = .ready) :
    ServiceKept v (withKeySlot p (loaded word (keySlot v p)) v) := by
  constructor
  case active =>
    cases p <;> simp only [keySlot] at h <;> rcases h with h | h <;>
      simp +contextual [activeLaw, activePhase, withKeySlot, loaded, keySlot, h]
  case guard => cases p <;> exact id
  case users => intro q; cases p <;> cases q <;> rfl
  case used =>
    intro q
    cases p <;> simp only [keySlot] at h <;> rcases h with h | h <;> cases q <;>
      simp [slotUsed, keySlot, withKeySlot, loaded, h]

/-- A service without an ACTIVE slot takes one up (R114, R115). -/
theorem serviceKept_activated {v : Service} (p : Phase) (c n : Nat) (h : activePhase v = none) :
    ServiceKept v (withKeySlot p { keySlot v p with state := .active }
      { v with state := .running, counter := c, extension := n }) := by
  obtain ⟨ha, hb⟩ : v.slotA.state ≠ .active ∧ v.slotB.state ≠ .active := by
    unfold activePhase at h
    split at h
    · cases h
    · split at h
      · cases h
      · exact ⟨by assumption, by assumption⟩
  constructor
  case active =>
    intro _
    cases p <;> simp [activeLaw, withKeySlot, keySlot, activePhase, ha, hb]
  case guard => cases p <;> exact id
  case users => intro q; cases p <;> cases q <;> rfl
  case used =>
    intro q
    cases p <;> cases q <;> simp [slotUsed, keySlot, withKeySlot]

theorem stoppedSlot_state_ne (k : KeySlot) : (stoppedSlot k).state ≠ .active := by
  unfold stoppedSlot
  split
  case isTrue => exact KeyState.noConfusion
  case isFalse h => exact h

theorem stoppedSlot_users (k : KeySlot) : (stoppedSlot k).users = k.users := by
  unfold stoppedSlot; split <;> rfl

theorem slotUsed_stoppedSlot {k : KeySlot} (h : slotUsed k) : slotUsed (stoppedSlot k) := by
  unfold stoppedSlot
  split
  case isTrue => exact fun _ => .inr rfl
  case isFalse => exact h

/-- A service stops: no slot is ACTIVE (R116). -/
theorem serviceKept_stopped (v : Service) : ServiceKept v (stopped v) where
  active _ := by
    have ha := stoppedSlot_state_ne v.slotA
    have hb := stoppedSlot_state_ne v.slotB
    simp [activeLaw, activePhase, stopped, ha, hb]
  guard := id
  users p := by cases p <;> exact stoppedSlot_users _
  used p h := by cases p <;> exact slotUsed_stoppedSlot h

theorem tickSlot_state (k : KeySlot) : (tickSlot k).state = k.state := by
  unfold tickSlot; split <;> rfl

theorem tickSlot_users (k : KeySlot) : (tickSlot k).users = k.users := by
  unfold tickSlot; split <;> rfl

/-- A tick moves no state and no user (R117, R122). -/
theorem serviceKept_tickService (hold : Bool) (v : Service) : ServiceKept v (tickService hold v) where
  active h := by simpa only [activeLaw, activePhase, tickService, tickSlot_state] using h
  guard := id
  users p := by cases p <;> exact tickSlot_users _
  used p h := by
    cases p <;> simpa only [slotUsed, keySlot, tickService, tickSlot_state, tickSlot_users] using h

/-! ### The service key table -/

theorem setService_moves {i : ServiceNo} {v : Service} (h : ServiceKept s.services[i] v) :
    Moves strict s { s with services := s.services.set i v } := by
  refine (Move.services _ s fun k => ?_).moves
  by_cases hk : i = k
  case pos => subst hk; simpa using h
  case neg =>
    have hval : i.val ≠ k.val := fun e => hk (Fin.ext e)
    simpa [hval] using ServiceKept.refl s.services[k]

theorem putService_moves {i : ServiceNo} {v : Service} (h : ServiceKept s.services[i] v) :
    Moves strict s (putService i v s) := by
  unfold putService
  dsimp only
  split
  · exact (setService_moves h).trans (setCause_moves _ _)
  · exact setService_moves h

theorem retire_moves (i : ServiceNo) (p : Phase) (s : State) : Moves strict s (retire i p s) := by
  unfold retire
  dsimp only
  split
  case isTrue hdue => exact putService_moves (serviceKept_emptied hdue)
  case isFalse => exact Moves.refl s

theorem retireBoth_moves (i : ServiceNo) (s : State) : Moves strict s (retireBoth i s) :=
  (retire_moves _ _ _).trans (retire_moves _ _ _)

theorem flipService_moves (i : ServiceNo) (s : State) : Moves strict s (flipService i s) := by
  unfold flipService
  split
  case h_1 => exact Moves.refl s
  case h_2 p hp =>
    exact ((putService_moves (serviceKept_flipped hp)).trans (deliver_moves _ _)).trans (select_moves _)

theorem expire_moves (i : ServiceNo) (s : State) : Moves strict s (expire i s) := by
  unfold expire
  dsimp only
  split
  case isTrue => exact Moves.refl s
  case isFalse hcounts =>
    have hc : counting s.services[i] = true := by simpa using hcounts
    split
    · exact flipService_moves i s
    · split
      · exact (putService_moves (serviceKept_expired hc .starved _ _ ServiceState.noConfusion)).trans
          (setCause_moves _ _)
      · exact (putService_moves (serviceKept_expired hc .withholding _ _ ServiceState.noConfusion)).trans
          (setCause_moves _ _)

theorem afterLoad_moves (i : ServiceNo) (p : Phase) (s : State) : Moves strict s (afterLoad i p s) := by
  unfold afterLoad
  dsimp only
  split
  case h_1 => exact flipService_moves i s
  case h_2 => exact flipService_moves i s
  case h_3 hnone => exact putService_moves (serviceKept_activated p _ _ hnone)
  all_goals exact Moves.refl s

end Sys2Proof.Machine
end

section
/-! SUPPORT. Chains of moves of the memory path: the merge table, the slot tracker, the packet path and the
intake (R1 to R106). -/

namespace Sys2Proof.Machine

variable {s : State} {strict : Bool}

/-! ### Changes aside -/

theorem Aside.refl (s : State) : Aside s s :=
  ⟨⟨rfl, rfl, fun _ => rfl, rfl, rfl, rfl, rfl, rfl, rfl, rfl, rfl, rfl, rfl, rfl, id⟩, rfl, rfl, rfl⟩

theorem OnPath.refl (s : State) : OnPath s s := (Aside.refl s).toOnPath

theorem OnPath.trans {s t u : State} (h : OnPath s t) (h' : OnPath t u) : OnPath s u :=
  ⟨h'.pending.trans h.pending, h'.inReset.trans h.inReset,
    fun i => (h'.apertures i).trans (h.apertures i), h'.streams.trans h.streams,
    h'.tracker.trans h.tracker, h'.services.trans h.services, h'.timeState.trans h.timeState,
    h'.hold.trans h.hold, h'.jobs.trans h.jobs, h'.run.trans h.run, h'.capture.trans h.capture,
    h'.flags.trans h.flags, h'.enables.trans h.enables, h'.raised.trans h.raised, h'.room ∘ h.room⟩

theorem setWaiting_aside (w : List Waiting) (s : State) : Aside s { s with waiting := w } :=
  ⟨⟨rfl, rfl, fun _ => rfl, rfl, rfl, rfl, rfl, rfl, rfl, rfl, rfl, rfl, rfl, rfl, id⟩, rfl, rfl, rfl⟩

theorem setOutstanding_aside (x : List Access) (s : State) : Aside s { s with outstanding := x } :=
  ⟨⟨rfl, rfl, fun _ => rfl, rfl, rfl, rfl, rfl, rfl, rfl, rfl, rfl, rfl, rfl, rfl, id⟩, rfl, rfl, rfl⟩

theorem setUpstream_aside (x : List Request) (s : State) : Aside s { s with upstream := x } :=
  ⟨⟨rfl, rfl, fun _ => rfl, rfl, rfl, rfl, rfl, rfl, rfl, rfl, rfl, rfl, rfl, rfl, id⟩, rfl, rfl, rfl⟩

theorem deliverUpstream_aside (r : Response) (s : State) : Aside s (deliverUpstream r s) :=
  ⟨⟨rfl, rfl, fun _ => rfl, rfl, rfl, rfl, rfl, rfl, rfl, rfl, rfl, rfl, rfl, rfl, id⟩, rfl, rfl, rfl⟩

theorem handAccess_aside (a : Access) (s : State) : Aside s (handAccess a s) := setWaiting_aside _ s

theorem handBlock_aside (r : Request) (b : Block) (op : Nat → Nat → Op) (h : Half → Handler) (s : State) :
    Aside s (handBlock r b op h s) := by
  unfold handBlock
  dsimp only
  split
  · exact setWaiting_aside _ s
  · exact handAccess_aside _ s

theorem handBlockRead_onPath (r : Request) (b : Block) (h : Half → Handler) (s : State) :
    OnPath s (handBlockRead r b h s) := (handBlock_aside _ _ _ _ _).toOnPath

theorem handBlockWrite_onPath (r : Request) (b : Block) (ws : List Word) (h : Half → Handler) (s : State) :
    OnPath s (handBlockWrite r b ws h s) := (handBlock_aside _ _ _ _ _).toOnPath

/-- A change of the saturation counts alone (R33). -/
theorem setAperture_aside {i : ApertureNo} {b : Aperture} (hb : uncounted b = uncounted s.apertures[i]) :
    Aside s { s with apertures := s.apertures.set i b } := by
  refine ⟨⟨rfl, rfl, fun k => ?_, rfl, rfl, rfl, rfl, rfl, rfl, rfl, rfl, rfl, rfl, rfl, id⟩, rfl, rfl, rfl⟩
  by_cases hk : i = k
  case pos => subst hk; simpa using hb
  case neg =>
    have hval : i.val ≠ k.val := fun e => hk (Fin.ext e)
    simp [hval]

/-! ### Changes of the pending list and of the merge table -/

theorem updateSegment_onPath (ref : SegRef) (f : Segment → Segment) (s : State) :
    OnPath s (updateSegment ref f s) :=
  ⟨rfl, rfl, fun _ => rfl, rfl, rfl, rfl, rfl, rfl, rfl, rfl, rfl, rfl, rfl, rfl, by simp [updateSegment]⟩

theorem setWork_onPath (ref : SegRef) (w : SegWork) (s : State) : OnPath s (setWork ref w s) :=
  updateSegment_onPath _ _ _

theorem finishSegment_onPath (ref : SegRef) (st : SegState) (d : List Word) (s : State) :
    OnPath s (finishSegment ref st d s) := updateSegment_onPath _ _ _

theorem setPendingList_onPath {x : List PendingEntry}
    (h : s.pendingList.length ≤ 24 → x.length ≤ 24) : OnPath s { s with pendingList := x } :=
  ⟨rfl, rfl, fun _ => rfl, rfl, rfl, rfl, rfl, rfl, rfl, rfl, rfl, rfl, rfl, rfl, h⟩

theorem setMergeTable_onPath (m : List MergeEntry) (s : State) : OnPath s { s with mergeTable := m } :=
  ⟨rfl, rfl, fun _ => rfl, rfl, rfl, rfl, rfl, rfl, rfl, rfl, rfl, rfl, rfl, rfl, id⟩

theorem putMerge_onPath (e : MergeEntry) (s : State) : OnPath s (putMerge e s) := setMergeTable_onPath _ s

theorem freeMerge_onPath (b : Block) (s : State) : OnPath s (freeMerge b s) := setMergeTable_onPath _ s

/-- The law of the merge table speaks of the table, the pending list and the requests taken alone. -/
theorem mergeLaw_congr {t : State} (hm : t.mergeTable = s.mergeTable) (hp : t.pendingList = s.pendingList)
    (ht : t.taken = s.taken) (h : MergeLaw s) : MergeLaw t := by
  simpa only [MergeLaw, unhandedPartial, segmentOf, entryOf, hm, hp, ht] using h

/-- Fewer second segments that may need an entry ask less of the table (R59). -/
theorem mergeLaw_of_list {t : State} (hm : t.mergeTable = s.mergeTable) (ht : t.taken = s.taken)
    (hids : ∀ e ∈ t.pendingList, e.id < t.taken)
    (hu : ∀ id, unhandedPartial t id → unhandedPartial s id) (h : MergeLaw s) : MergeLaw t := by
  obtain ⟨hlength, hblocks, -, hwaits, hclaims⟩ := h
  unfold MergeLaw
  rw [hm]
  exact ⟨hlength, hblocks, hids, fun m hmem ref href => ht ▸ hwaits m hmem ref href,
    fun m hmem ref href h0 hun => hclaims m hmem ref href h0 (hu _ hun)⟩

theorem unhandedPartial_updateSegment {ref : SegRef} {f : Segment → Segment} {id : Nat}
    (hf : ∀ g, ¬ ((f g).work = .unhanded ∧ (f g).state = .inProgress))
    (h : unhandedPartial (updateSegment ref f s) id) : unhandedPartial s id := by
  obtain ⟨p, g, b, first, ws, hseg, hwork, hstate, hplace, hop⟩ := h
  obtain ⟨p', g', hseg', -, hg⟩ := segmentOf_updateSegment ref f s _ p g hseg
  split at hg
  · exact absurd ⟨hg ▸ hwork, hg ▸ hstate⟩ (hf g')
  · subst hg
    exact ⟨p', g, b, first, ws, hseg', hwork, hstate, hplace, hop⟩

theorem ids_updateSegment {ref : SegRef} {f : Segment → Segment} {n : Nat}
    (h : ∀ e ∈ s.pendingList, e.id < n) : ∀ e ∈ (updateSegment ref f s).pendingList, e.id < n := by
  intro e he
  obtain ⟨x, hx, rfl⟩ := List.mem_map.mp he
  split
  · exact h x hx
  · exact h x hx

/-- A segment that is handed or finished asks no more for an entry of its own (R59). -/
theorem mergeLaw_updateSegment {ref : SegRef} {f : Segment → Segment}
    (hf : ∀ g, ¬ ((f g).work = .unhanded ∧ (f g).state = .inProgress)) (h : MergeLaw s) :
    MergeLaw (updateSegment ref f s) :=
  mergeLaw_of_list (s := s) rfl rfl (ids_updateSegment h.2.2.1) (fun _ => unhandedPartial_updateSegment hf) h

theorem mergeLaw_setWork {ref : SegRef} {w : SegWork} (hw : w ≠ .unhanded) (h : MergeLaw s) :
    MergeLaw (setWork ref w s) := mergeLaw_updateSegment (fun _ hg => hw hg.1) h

theorem mergeLaw_finishSegment {ref : SegRef} {st : SegState} {d : List Word} (hst : st ≠ .inProgress)
    (h : MergeLaw s) : MergeLaw (finishSegment ref st d s) :=
  mergeLaw_updateSegment (fun _ hg => hst hg.2) h

theorem setWork_moves {ref : SegRef} {w : SegWork} (hw : w ≠ .unhanded) (s : State) :
    Moves strict s (setWork ref w s) := (setWork_onPath ref w s).moves (mergeLaw_setWork hw)

theorem finishSegment_moves {ref : SegRef} {st : SegState} {d : List Word} (hst : st ≠ .inProgress)
    (s : State) : Moves strict s (finishSegment ref st d s) :=
  (finishSegment_onPath ref st d s).moves (mergeLaw_finishSegment hst)

/-! ### The merge table -/

theorem addSaturated_moves (i : ApertureNo) (n : Nat) (s : State) : Moves strict s (addSaturated i n s) := by
  unfold addSaturated
  dsimp only
  have hcounted := setAperture_aside (s := s) (i := i)
    (b := { s.apertures[i] with saturation := min Config.saturationLimit (s.apertures[i].saturation + n) }) rfl
  split
  · exact hcounted.moves.trans (setCause_moves _ _)
  · exact hcounted.moves

theorem memoryFault_moves (i : Initiator) (a : Option ApertureNo) (r : Request) (s : State) :
    Moves strict s (memoryFault i a r s) := (offer_moves _ _).trans (setCause_moves _ _)

theorem entryFault_moves (e : PendingEntry) (r : Request) (s : State) : Moves strict s (entryFault e r s) :=
  memoryFault_moves _ _ _ _

theorem fetchMerge_onPath (e : MergeEntry) (id : Nat) (s : State) : OnPath s (fetchMerge e id s) := by
  unfold fetchMerge
  dsimp only
  split
  · exact putMerge_onPath _ s
  · exact (putMerge_onPath _ s).trans (handBlockRead_onPath _ _ _ _)

theorem writeMerge_onPath (e : MergeEntry) (p : PendingEntry) (stored : Stored) (s : State) :
    OnPath s (writeMerge e p stored s) := (putMerge_onPath _ s).trans (handBlockWrite_onPath _ _ _ _ _)

theorem carryOut_moves (e : MergeEntry) (ref : SegRef) (s : State) : Moves false s (carryOut e ref s) := by
  unfold carryOut
  split
  case h_1 => exact (putMerge_onPath _ s).loose
  case h_2 =>
    split
    case h_1 =>
      dsimp only
      split
      · exact ((putMerge_onPath _ s).trans (finishSegment_onPath _ _ _ _)).loose
      · exact (fetchMerge_onPath _ _ s).loose
      · exact (addSaturated_moves _ _ s).trans (writeMerge_onPath _ _ _ _).loose
      · exact (addSaturated_moves _ _ s).trans (writeMerge_onPath _ _ _ _).loose
      · exact (fetchMerge_onPath _ _ s).loose
    case h_2 => exact (putMerge_onPath _ s).loose

theorem park_onPath (e : MergeEntry) (ref : SegRef) (s : State) : OnPath s (park e ref s) :=
  (putMerge_onPath _ s).trans (setWork_onPath _ _ _)

theorem handSample_moves (ref : SegRef) (s : State) : Moves false s (handSample ref s) := by
  unfold handSample
  split
  case h_1 => exact Moves.refl s
  case h_2 =>
    split
    case h_1 =>
      split
      · exact (park_onPath _ _ s).loose
      · exact ((setWork_onPath _ _ s).trans (handBlockRead_onPath _ _ _ _)).loose
      · exact (addSaturated_moves _ _ s).trans ((setWork_onPath _ _ _).trans (handBlockWrite_onPath _ _ _ _ _)).loose
      · exact ((setMergeTable_onPath _ s).trans
          ((setWork_onPath _ _ _).trans (handBlockRead_onPath _ _ _ _))).loose
    case h_2 => exact Moves.refl s

theorem handSecond_moves (ref : SegRef) (s : State) : Moves false s (handSecond ref s) := by
  unfold handSecond
  dsimp only
  split
  case h_1 =>
    split
    case isTrue =>
      split
      · exact (park_onPath _ _ s).loose
      · exact handSample_moves _ s
    case isFalse => exact Moves.refl s
  case h_2 => exact Moves.refl s

theorem mergeTurn_moves (e : MergeEntry) (s : State) : Moves false s (mergeTurn e s) := by
  unfold mergeTurn
  split
  · exact (carryOut_moves _ _ s).trans (handSecond_moves _ _)
  · exact (freeMerge_onPath _ s).loose
  · exact (fetchMerge_onPath _ _ s).loose

theorem mergeSettle_moves : ∀ (n : Nat) (s : State), Moves false s (mergeSettle n s)
  | 0, s => Moves.refl s
  | n + 1, s => by
    unfold mergeSettle
    split
    · exact Moves.refl s
    · exact (mergeTurn_moves _ s).trans (mergeSettle_moves n _)

theorem mergeRun_moves (s : State) : Moves false s (mergeRun s) := mergeSettle_moves _ s

theorem claimSecond_onPath (p : PendingEntry) (n : ApertureNo) (g : Segment) (s : State) :
    OnPath s (claimSecond p n g s) := by
  unfold claimSecond
  split
  · split
    · exact putMerge_onPath _ s
    · exact (setMergeTable_onPath _ s).trans (handBlockRead_onPath _ _ _ _)
    · exact OnPath.refl s
  · exact OnPath.refl s
  · exact OnPath.refl s

theorem handSamples_moves (p : PendingEntry) (s : State) : Moves false s (handSamples p s) := by
  unfold handSamples
  dsimp only
  split
  case h_1 =>
    split
    · split
      · exact (((setWork_onPath _ _ s).trans (park_onPath _ _ _)).trans (claimSecond_onPath _ _ _ _)).loose.trans
          (mergeRun_moves _)
      · exact ((handSample_moves _ s).trans (handSample_moves _ _)).trans (mergeRun_moves _)
    · exact Moves.refl s
    · exact Moves.refl s
  case h_2 => exact (handSample_moves _ s).trans (mergeRun_moves _)

theorem answerDirect_moves (p : PendingEntry) (g : Segment) (ref : SegRef) (io : BlockIo) (half : Half)
    (r : Request) (a : Answer) (s : State) : Moves strict s (answerDirect p g ref io half r a s) := by
  have hfault : Moves strict s (if a = .error then entryFault p r s else s) := by
    split
    · exact entryFault_moves p r s
    · exact Moves.refl s
  unfold answerDirect
  dsimp only
  split
  · split
    all_goals exact hfault.trans (finishSegment_moves (by decide) _)
  · exact hfault.trans (setWork_moves SegWork.noConfusion _)

theorem fetchFailed_onPath (e : MergeEntry) (s : State) : OnPath s (fetchFailed e s) := by
  unfold fetchFailed
  split
  · exact (putMerge_onPath _ s).trans (finishSegment_onPath _ _ _ _)
  · exact (putMerge_onPath _ s).trans (finishSegment_onPath _ _ _ _)
  · split
    · exact (putMerge_onPath _ s).trans (finishSegment_onPath _ _ _ _)
    · exact putMerge_onPath _ s

theorem completeMerge_moves (e : MergeEntry) (s : State) : Moves false s (completeMerge e s) := by
  unfold completeMerge
  split
  · exact (fetchFailed_onPath e s).loose
  · exact carryOut_moves _ _ s
  · exact (putMerge_onPath _ s).loose
  · exact ((putMerge_onPath _ s).trans (finishSegment_onPath _ _ _ _)).loose
  · exact (putMerge_onPath _ s).loose
  · exact Moves.refl s

theorem answerMerge_moves (e : MergeEntry) (half : Half) (r : Request) (a : Answer) (s : State) :
    Moves false s (answerMerge e half r a s) := by
  have hfault : Moves false s (match a, (servedBy e).bind (entryOf s) with
      | .error, some p => entryFault p r s
      | _, _ => s) := by
    split
    · exact entryFault_moves _ r s
    · exact Moves.refl s
  unfold answerMerge
  dsimp only
  split
  · exact hfault.trans ((completeMerge_moves _ _).trans (mergeRun_moves _))
  · exact hfault.trans (putMerge_onPath _ _).loose

/-! ### The slot tracker -/

/-- The entry that a slot's lookup finds is open and serves the slot (R85). -/
theorem findEntry_mem {slot : Addr} {e : TrackerEntry} (h : findEntry s slot = some e) :
    e ∈ s.tracker ∧ e.slot = slot :=
  ⟨List.mem_of_find?_eq_some h, by simpa using List.find?_some h⟩

/-- Marking the entry of a slot changes neither its slot nor its disposition (R91). -/
theorem marked_map {α : Type} (f : TrackerEntry → α) {slot : Addr} {x : TrackerEntry}
    (hf : ∀ y ∈ s.tracker, y.slot = slot → f x = f y) :
    (s.tracker.map fun y => if y.slot = slot then x else y).map f = s.tracker.map f := by
  rw [List.map_map]
  refine List.map_congr_left fun y hy => ?_
  simp only [Function.comp]
  split
  case isTrue h => exact hf y hy h
  case isFalse => rfl

theorem markWords_moves (slot : Addr) (first n : Nat) (s : State) : Moves strict s (markWords slot first n s) := by
  unfold markWords
  split
  case h_1 => exact Moves.refl s
  case h_2 e he =>
    obtain ⟨hmem, hslot⟩ := findEntry_mem he
    dsimp only
    split
    case isTrue => exact (Move.closed e s hmem).moves
    case isFalse =>
      have hslots : ∀ y ∈ s.tracker, y.slot = slot → (markEntry s first n e).slot = y.slot :=
        fun y _ hy => hslot.trans hy.symm
      refine (Move.marked _ s (marked_map (·.slot) hslots) fun hnodup => ?_).moves
      refine marked_map (·.disposition) fun y hy hyslot => ?_
      obtain rfl : e = y := List.inj_on_of_nodup_map hnodup hmem hy (hslot.trans hyslot.symm)
      rfl

theorem abandonWhere_moves (reason : CloseReason) (test : TrackerEntry → Bool) (s : State) :
    Moves strict s (abandonWhere reason test s) := (Move.abandoned reason test s).moves

/-- An open entry is closed as abandoned (R94). -/
theorem abandon_moves {e : TrackerEntry} (reason : CloseReason) (h : e ∈ s.tracker) :
    Moves strict s (abandon reason e s) :=
  (offer_moves _ s).trans (Move.closed e _ (by rwa [offer_tracker])).moves

theorem tracker_dropUse (d : Disposition) (s : State) : (dropUse d s).tracker = s.tracker := by
  obtain ⟨_, _, _, _, _, h⟩ := dropUse_changes d s
  rw [h]

theorem tracker_closeEntry (e : TrackerEntry) (s : State) :
    (closeEntry e s).tracker = s.tracker.filter fun x => x.slot != e.slot := tracker_dropUse _ _

theorem tracker_abandon (reason : CloseReason) (e : TrackerEntry) (s : State) :
    (abandon reason e s).tracker = s.tracker.filter fun x => x.slot != e.slot := by
  unfold abandon
  rw [tracker_closeEntry, offer_tracker]

/-- What is left of the tracker when some entries have been abandoned. -/
theorem tracker_abandonAll (reason : CloseReason) (es : List TrackerEntry) (s : State) :
    (abandonAll reason es s).tracker = s.tracker.filter fun x => es.all fun e => x.slot != e.slot := by
  induction es generalizing s with
  | nil => simp [abandonAll]
  | cons e es ih =>
    have hstep : abandonAll reason (e :: es) s = abandonAll reason es (abandon reason e s) := rfl
    rw [hstep, ih, tracker_abandon, List.filter_filter]
    simp only [List.all_cons, Bool.and_comm]

/-- No entry that satisfies the test is left (R95, R97). -/
theorem not_test_of_mem_abandonWhere {reason : CloseReason} {test : TrackerEntry → Bool}
    {x : TrackerEntry} (h : x ∈ (abandonWhere reason test s).tracker) : test x = false := by
  unfold abandonWhere at h
  rw [tracker_abandonAll, List.mem_filter, List.all_eq_true] at h
  obtain ⟨hmem, hall⟩ := h
  by_contra htest
  have hx : x ∈ s.tracker.filter test := List.mem_filter.mpr ⟨hmem, by simpa using htest⟩
  simpa using hall x hx

theorem purgeKeys_moves (h : ∀ e ∈ s.tracker, isScramble e.disposition = false) :
    Moves strict s (purgeKeys s) := by
  unfold purgeKeys
  dsimp only
  have hpurged : Moves strict s _ := (Move.purged s h).moves.trans (setCause_moves .purged _)
  split
  · exact hpurged.trans (setCause_moves _ _)
  · exact hpurged

theorem keyPurge_moves (s : State) : Moves strict s (keyPurge s) :=
  (abandonWhere_moves _ _ s).trans (purgeKeys_moves fun _ h => not_test_of_mem_abandonWhere h)

theorem emptyTracker_moves (s : State) : Moves strict s (emptyTracker s) :=
  (Move.emptied s).moves.trans (moves_foldl _ (fun s i => retireBoth_moves i s) _ _)

/-! ### The packet path -/

theorem countPacket_moves (d : Decision) (s : State) : Moves strict s (countPacket d s) := by
  unfold countPacket
  split
  · exact setService_moves (serviceKept_of_slots rfl rfl rfl rfl rfl)
  · exact setService_moves (serviceKept_of_slots rfl rfl rfl rfl rfl)
  · exact Moves.refl s

/-- A count of packets leaves every key slot (R78). -/
theorem keySlot_countPacket (d : Decision) (i : ServiceNo) (p : Phase) (s : State) :
    keySlot (countPacket d s).services[i] p = keySlot s.services[i] p := by
  have set_eq : ∀ (k : ServiceNo) (v : Service), v.slotA = s.services[k].slotA →
      v.slotB = s.services[k].slotB →
      keySlot (s.services.set k v)[i] p = keySlot s.services[i] p := by
    intro k v ha hb
    by_cases hk : k = i
    case pos => subst hk; cases p <;> simpa [keySlot]
    case neg =>
      have hval : k.val ≠ i.val := fun e => hk (Fin.ext e)
      simp [hval]
  unfold countPacket
  split
  · exact set_eq _ _ rfl rfl
  · exact set_eq _ _ rfl rfl
  · rfl

/-- A phase found ACTIVE is (R109). -/
theorem state_of_activePhase {v : Service} {p : Phase} (h : activePhase v = some p) :
    (keySlot v p).state = .active := by
  unfold activePhase at h
  split at h
  case isTrue ha => cases h; exact ha
  case isFalse =>
    split at h
    case isTrue hb => cases h; exact hb
    case isFalse => cases h

/-- A packet is scrambled under its service's ACTIVE slot (R72). -/
theorem active_of_serviceDecision {i k : ServiceNo} {pid : Pid} {p : Phase}
    (h : (serviceDecision s i pid).disposition = .scramble k p) :
    (keySlot s.services[k] p).state = .active := by
  unfold serviceDecision at h
  dsimp only at h
  split at h
  case h_1 hp => cases h; exact state_of_activePhase hp
  case h_2 hp => cases h; exact state_of_activePhase hp
  all_goals cases h

/-- Only the stream map's SCRAMBLE entries scramble (R71, R72). -/
theorem active_of_decideOpening {unlisted : ClearOrNull} {ws : List WriteWord} {k : ServiceNo} {p : Phase}
    (h : (decideOpening s unlisted ws).disposition = .scramble k p) :
    (keySlot s.services[k] p).state = .active := by
  unfold decideOpening at h
  dsimp only at h
  split at h
  · cases h
  · split at h
    · cases h
    · split at h
      · cases h
      · cases h
      · unfold listedDecision at h
        dsimp only at h
        split at h
        · cases h
        · cases h
        · exact active_of_serviceDecision h
        · cases h
      · cases unlisted <;> cases h

theorem disposition_openingEntry (s : State) (p : PendingEntry) (n : ApertureNo) (slot : Addr)
    (d : Decision) (ws : List WriteWord) : (openingEntry s p n slot d ws).disposition = d.disposition := by
  unfold openingEntry
  dsimp only
  split
  case h_1 h => exact h.symm
  all_goals rfl

/-- An entry opens under an ACTIVE slot (R86). -/
theorem openEntry_moves {e : TrackerEntry}
    (h : ∀ i p, e.disposition = .scramble i p → (keySlot s.services[i] p).state = .active) :
    Moves strict s (openEntry e s) := (Move.opened e s h).moves

theorem handOpening_moves (p : PendingEntry) (n : ApertureNo) (unlisted : ClearOrNull) (ref : SegRef)
    (g : Segment) (slot : Addr) (ws : List WriteWord) (s : State) :
    Moves strict s (handOpening p n unlisted ref g slot ws s) := by
  unfold handOpening
  dsimp only
  have hkey : ∀ t : State, t.services = (countPacket (decideOpening s unlisted ws) s).services →
      ∀ i ph, (openingEntry t p n slot (decideOpening s unlisted ws) ws).disposition = .scramble i ph →
        (keySlot t.services[i] ph).state = .active := by
    intro t ht i ph hd
    rw [disposition_openingEntry] at hd
    rw [ht, keySlot_countPacket]
    exact active_of_decideOpening hd
  have hcount : Moves strict s _ := countPacket_moves (decideOpening s unlisted ws) s
  split
  · exact hcount.trans (((offer_moves _ _).trans (openEntry_moves (hkey _ (offer_services _ _)))).trans
      (handAccess_aside _ _).moves)
  · exact hcount.trans ((openEntry_moves (hkey _ rfl)).trans (handAccess_aside _ _).moves)

theorem handContinuation_moves (p : PendingEntry) (n : ApertureNo) (ref : SegRef) (g : Segment)
    (slot : Addr) (first : Nat) (ws : List WriteWord) (s : State) :
    Moves strict s (handContinuation p n ref g slot first ws s) := by
  unfold handContinuation
  split
  · exact (offer_moves _ s).trans (finishSegment_moves (by decide) _)
  · exact (handAccess_aside _ s).moves.trans (markWords_moves _ _ _ _)

theorem handPacketRead_aside (p : PendingEntry) (ref : SegRef) (g : Segment) (s : State) :
    Aside s (handPacketRead p ref g s) := handAccess_aside _ s

theorem handClearRead_moves (p : PendingEntry) (ref : SegRef) (g : Segment) (slot : Addr) (first : Nat)
    (s : State) : Moves strict s (handClearRead p ref g slot first s) := by
  unfold handClearRead
  split
  · exact (setWork_moves SegWork.noConfusion s).trans (handPacketRead_aside _ _ _ _).moves
  · split
    · exact (setWork_moves SegWork.noConfusion s).trans (handPacketRead_aside _ _ _ _).moves
    · exact (setWork_moves SegWork.noConfusion s).trans (handAccess_aside _ _).moves

theorem handPacket_moves (p : PendingEntry) (ref : SegRef) (g : Segment) (slot : Addr) (first : Nat)
    (s : State) : Moves strict s (handPacket p ref g slot first s) := by
  unfold handPacket
  split
  · split
    · split
      · exact handOpening_moves _ _ _ _ _ _ _ s
      · exact handContinuation_moves _ _ _ _ _ _ _ s
    · split
      · exact handClearRead_moves _ _ _ _ _ s
      · exact (handPacketRead_aside _ _ _ s).moves
  · exact Moves.refl s

theorem settleHeader_moves (p : PendingEntry) (g : Segment) (w0 w1 : Word) (s : State) :
    Moves strict s (settleHeader p g w0 w1 s).2 := by
  unfold settleHeader
  dsimp only
  split
  · exact Moves.refl s
  · exact offer_moves _ s

theorem answerPlain_moves (p : PendingEntry) (g : Segment) (ref : SegRef) (r : Request) (a : Answer)
    (s : State) : Moves strict s (answerPlain p g ref r a s) := by
  unfold answerPlain
  split
  · exact (entryFault_moves _ _ s).trans (finishSegment_moves (by decide) _)
  · exact finishSegment_moves (by decide) s
  · exact finishSegment_moves (by decide) s

theorem answerClear_moves (p : PendingEntry) (g : Segment) (ref : SegRef) (plan : ClearPlan) (r : Request)
    (a : Answer) (s : State) : Moves strict s (answerClear p g ref plan r a s) := by
  unfold answerClear
  split
  · exact (entryFault_moves _ _ s).trans (finishSegment_moves (by decide) _)
  · dsimp only
    split
    · exact (settleHeader_moves _ _ _ _ s).trans (finishSegment_moves (by decide) _)
    all_goals exact finishSegment_moves (by decide) s
  · exact finishSegment_moves (by decide) s

theorem answerHeader_moves (p : PendingEntry) (g : Segment) (ref : SegRef) (r : Request) (a : Answer)
    (s : State) : Moves strict s (answerHeader p g ref r a s) := by
  unfold answerHeader
  split
  · exact (entryFault_moves _ _ s).trans (finishSegment_moves (by decide) _)
  · exact (settleHeader_moves _ _ _ _ s).trans
      ((setWork_moves SegWork.noConfusion _).trans (handPacketRead_aside _ _ _ _).moves)

/-! ### The memory port -/

theorem answerSegment_moves (ref : SegRef) (half : Half) (r : Request) (a : Answer) (s : State) :
    Moves strict s (answerSegment ref half r a s) := by
  unfold answerSegment
  split
  · exact Moves.refl s
  · split
    · exact answerPlain_moves _ _ _ _ _ s
    · exact answerDirect_moves _ _ _ _ _ _ _ s
    · exact answerClear_moves _ _ _ _ _ _ s
    · exact Moves.refl s
    · exact Moves.refl s

theorem handleAnswer_moves (x : Access) (a : Answer) (s : State) : Moves false s (handleAnswer x a s) := by
  unfold handleAnswer
  split
  · exact answerSegment_moves _ _ _ _ s
  · split
    · exact Moves.refl s
    · exact answerHeader_moves _ _ _ _ _ s
  · split
    · exact Moves.refl s
    · exact answerMerge_moves _ _ _ _ s
  · exact Moves.refl s

theorem matchAnswer_moves (a : Answer) (s : State) : Moves false s (matchAnswer a s) := by
  unfold matchAnswer
  split
  · exact Moves.refl s
  · exact (setOutstanding_aside _ s).moves.trans (handleAnswer_moves _ _ _)

theorem issueNext_aside (swap : Bool) (s : State) : Aside s (issueNext swap s) := by
  unfold issueNext
  split
  · exact Aside.refl s
  · exact ⟨⟨rfl, rfl, fun _ => rfl, rfl, rfl, rfl, rfl, rfl, rfl, rfl, rfl, rfl, rfl, rfl, id⟩, rfl, rfl, rfl⟩

/-! ### The intake -/

theorem handPiece_moves (p : PendingEntry) (s : State) (x : Segment × Nat) : Moves strict s (handPiece p s x) := by
  unfold handPiece
  dsimp only
  split
  · exact (handAccess_aside _ s).moves
  · exact handPacket_moves _ _ _ _ _ s
  · exact Moves.refl s

theorem handSegments_moves (p : PendingEntry) (s : State) : Moves false s (handSegments p s) := by
  unfold handSegments
  split
  · exact Moves.refl s
  · exact handSamples_moves _ s
  · exact moves_foldl _ (handPiece_moves p) _ s

theorem recordVerdict_moves (v : Verdict) (r : Request) (s : State) : Moves strict s (recordVerdict v r s) := by
  unfold recordVerdict
  split
  · exact Moves.refl s
  · exact offer_moves _ s

theorem recordVerdict_pendingList (v : Verdict) (r : Request) (s : State) :
    (recordVerdict v r s).pendingList = s.pendingList := by
  unfold recordVerdict
  split
  · rfl
  · exact offer_pendingList _ _

/-- A request that may be taken finds room in the pending list (R4, R5). -/
theorem takeRequest_moves {source : Source} {r : Request} (h : s.pendingList.length < 24) :
    Moves false s (takeRequest source r s) := by
  unfold takeRequest
  dsimp only
  refine (recordVerdict_moves (classify s source r) r s).trans (Moves.trans ?_ (handSegments_moves _ _))
  refine OnPath.loose
    ⟨rfl, rfl, fun _ => rfl, rfl, rfl, rfl, rfl, rfl, rfl, rfl, rfl, rfl, rfl, rfl, fun _ => ?_⟩
  simpa [recordVerdict_pendingList] using h

theorem length_lt_of_canTake {source : Source} {r : Request} (h : canTake s source r = true) :
    s.pendingList.length < 24 := by
  simp only [canTake, Bool.and_eq_true, decide_eq_true_eq] at h
  exact h.1.1

theorem canTake_of_readyUpstream {r : Request} (h : readyUpstream s = some r) :
    canTake s .upstream r = true := by
  unfold readyUpstream at h
  split at h
  case h_1 =>
    split at h
    case isTrue hc => cases h; exact hc
    case isFalse => cases h
  case h_2 => cases h

theorem readyJob_run {run : JobRun} (h : readyJob s = some run) :
    s.run = some run ∧ run.taken = false ∧ canTake s .job run.request = true := by
  unfold readyJob at h
  split at h
  case h_1 x hrun =>
    split at h
    case isTrue hc =>
      cases h
      simp only [Bool.and_eq_true, Bool.not_eq_true'] at hc
      exact ⟨hrun, hc⟩
    case isFalse => cases h
  case h_2 => cases h

theorem takeUpstream_moves {r : Request} (h : readyUpstream s = some r) : Moves false s (takeUpstream r s) := by
  have hroom : s.pendingList.length < 24 := length_lt_of_canTake (canTake_of_readyUpstream h)
  exact (setUpstream_aside s.upstream.tail s).moves.trans (takeRequest_moves hroom)

theorem takeJob_moves {run : JobRun} (h : readyJob s = some run) : Moves false s (takeJob run s) := by
  obtain ⟨hrun, -, hcan⟩ := readyJob_run h
  have hroom : s.pendingList.length < 24 := length_lt_of_canTake hcan
  exact (Move.moved run { run with taken := true } s hrun rfl).moves.trans (takeRequest_moves hroom)

theorem arbitrate_moves (s : State) : Moves false s (arbitrate s) := by
  unfold arbitrate
  split
  case h_1 hr _ => exact takeUpstream_moves hr
  case h_2 hr _ _ => exact takeUpstream_moves hr
  case h_3 _ hr _ => exact takeJob_moves hr
  case h_4 hr => exact takeJob_moves hr
  case h_5 => exact Moves.refl s

theorem deliverResponse_moves (e : PendingEntry) (st : Status) (s : State) :
    Moves strict s (deliverResponse e st s) := by
  unfold deliverResponse
  split
  · exact (deliverUpstream_aside _ s).moves
  · exact jobResponse_moves _ _ _ s

/-- What is found when the entries of one name are freed was found before (R11). -/
theorem entryOf_released {n id : Nat} {e : PendingEntry}
    (h : entryOf { s with pendingList := s.pendingList.filter fun x => x.id != n } id = some e) :
    entryOf s id = some e := by
  unfold entryOf at h ⊢
  dsimp only at h
  rw [List.find?_filter] at h
  have hname : id ≠ n := by
    have hfound := List.find?_some h
    simp only [bne_iff_ne, beq_iff_eq, decide_eq_true_eq] at hfound
    exact hfound.2 ▸ hfound.1
  rw [← h]
  congr 1
  funext x
  by_cases hx : x.id = id <;> simp [hx, hname]

theorem unhandedPartial_released {n id : Nat}
    (h : unhandedPartial { s with pendingList := s.pendingList.filter fun x => x.id != n } id) :
    unhandedPartial s id := by
  obtain ⟨p, g, b, first, ws, hseg, hrest⟩ := h
  refine ⟨p, g, b, first, ws, ?_, hrest⟩
  unfold segmentOf at hseg ⊢
  split at hseg
  case h_1 => cases hseg
  case h_2 e he => rw [entryOf_released he]; exact hseg

theorem mergeLaw_released {n : Nat} (h : MergeLaw s) :
    MergeLaw { s with pendingList := s.pendingList.filter fun x => x.id != n } :=
  mergeLaw_of_list (s := s) rfl rfl (fun e he => h.2.2.1 e (List.mem_of_mem_filter he))
    (fun _ => unhandedPartial_released) h

theorem releaseOldest_moves (o : Owner) (s : State) : Moves strict s (releaseOldest o s) := by
  unfold releaseOldest
  split
  · exact Moves.refl s
  · split
    · exact Moves.refl s
    · exact ((setPendingList_onPath fun h => (List.length_filter_le _ _).trans h).moves
        mergeLaw_released).trans (deliverResponse_moves _ _ _)

end Sys2Proof.Machine
end

section
/-! SUPPORT. Every step is a chain of moves: the ticks, the management commands, the inputs and the step
itself (R107 to R180). -/

namespace Sys2Proof.Machine

variable {s : State} {strict : Bool}

/-! ### Ticks -/

theorem setTime_moves {b : Timebase} (h : holdLaw s.time → holdLaw b) : Moves strict s { s with time := b } :=
  (Move.time b s h).moves

/-- A change of the timebase's counters and levels. -/
theorem setTime_aside {b : Timebase} (hs : b.state = s.time.state) (hh : b.hold = s.time.hold) :
    Aside s { s with time := b } :=
  ⟨⟨rfl, rfl, fun _ => rfl, rfl, rfl, rfl, hs, hh, rfl, rfl, rfl, rfl, rfl, rfl, id⟩, rfl, rfl, rfl⟩

theorem setExpiring_aside (x : List ServiceNo) (s : State) : Aside s { s with expiring := x } :=
  ⟨⟨rfl, rfl, fun _ => rfl, rfl, rfl, rfl, rfl, rfl, rfl, rfl, rfl, rfl, rfl, rfl, id⟩, rfl, rfl, rfl⟩

theorem setTickOpen_aside (x : List ServiceNo) (b : Bool) (s : State) :
    Aside s { s with tickOpen := b, expiring := x } :=
  ⟨⟨rfl, rfl, fun _ => rfl, rfl, rfl, rfl, rfl, rfl, rfl, rfl, rfl, rfl, rfl, rfl, id⟩, rfl, rfl, rfl⟩

theorem closeFirstAged_moves (s : State) : Moves strict s (closeFirstAged s) := by
  unfold closeFirstAged
  split
  · exact Moves.refl s
  · exact abandon_moves _ (List.mem_of_find?_eq_some (by assumption))

theorem closeWhenOpen_moves (s : State) : Moves strict s (if s.tickOpen then closeFirstAged s else s) := by
  split
  · exact closeFirstAged_moves s
  · exact Moves.refl s

theorem actOnExpiry_moves (i : ServiceNo) (s : State) : Moves strict s (actOnExpiry i s) := by
  unfold actOnExpiry
  split
  · exact (setExpiring_aside _ s).moves.trans ((retireBoth_moves _ _).trans (expire_moves _ _))
  · exact Moves.refl s

/-- A qualified reference is LOCKED, the hold clear (R134, R136). -/
theorem qualify_moves (s : State) : Moves strict s (qualify s) := by
  unfold qualify
  split
  · refine (setTime_moves fun _ => ?_).trans (setCause_moves _ _)
    exact ⟨fun _ => rfl, fun h => by simp at h⟩
  · exact Moves.refl s

/-- The holdover ends FROZEN, the hold set (R135, R136). -/
theorem endHoldover_moves (s : State) : Moves strict s (endHoldover s) := by
  unfold endHoldover
  split
  · refine (setTime_moves fun _ => ?_).trans (setCause_moves _ _)
    exact ⟨fun h => by simp at h, fun _ => rfl⟩
  · exact Moves.refl s

theorem finishTick_moves (s : State) : Moves strict s (finishTick s) := by
  unfold finishTick
  have hfold : Moves strict _ _ := moves_foldl (fun t i => actOnExpiry i (retireBoth i t))
    (fun t i => (retireBoth_moves i t).trans (actOnExpiry_moves i _)) (List.finRange 24)
    (abandonWhere .idle (aged s) s)
  exact ((((abandonWhere_moves _ _ s).trans hfold).trans (qualify_moves _)).trans
    (endHoldover_moves _)).trans (setTickOpen_aside _ _ _).moves

theorem settled_moves (s : State) : Moves strict s (settled s) := by
  unfold settled
  split
  · exact finishTick_moves s
  · exact Moves.refl s

theorem makeTick_moves (s : State) : Moves strict s (makeTick s) := by
  have htime : Moves strict s { s with time := tickTime s.time } :=
    (setTime_aside (b := tickTime s.time) rfl rfl).moves
  have hservices : Moves strict { s with time := tickTime s.time } { s with
      time := tickTime s.time
      services := Vector.ofFn fun i : Fin 24 => tickService s.time.hold s.services[i] } := by
    refine (Move.services (Vector.ofFn fun i : Fin 24 => tickService s.time.hold s.services[i])
      { s with time := tickTime s.time } fun i => ?_).moves
    simpa using serviceKept_tickService s.time.hold s.services[i]
  exact (htime.trans hservices).trans (setTickOpen_aside _ _ _).moves

theorem passEdge_moves (s : State) : Moves strict s (passEdge s) := by
  unfold passEdge
  split
  · exact (setTime_aside (s := s) (b := { s.time with division := s.time.division + 1 }) rfl rfl).moves
  · exact makeTick_moves s

theorem clockEdge_moves (c : TickSource) (s : State) : Moves strict s (clockEdge c s) := by
  unfold clockEdge
  split
  · exact passEdge_moves s
  · exact Moves.refl s

theorem whenRunning_moves {f : State → State} (h : ∀ s, Moves strict s (f s)) (s : State) :
    Moves strict s (whenRunning f s) := by
  unfold whenRunning
  split
  · exact Moves.refl s
  · exact h s

/-! ### Replies -/

theorem done_moves {t : State} (h : Moves strict s t) : Moves strict s (done t).state := by
  rwa [show (done t).state = t from rfl]

theorem writePathReply_moves (action limit : Byte) (s : State) :
    Moves strict s (writePathReply action limit s).state := by
  unfold writePathReply
  split
  · exact Moves.refl s
  · split
    · exact Moves.refl s
    · exact Aside.moves ⟨⟨rfl, rfl, fun _ => rfl, rfl, rfl, rfl, rfl, rfl, rfl, rfl, rfl, rfl, rfl, rfl, id⟩,
        rfl, rfl, rfl⟩

/-- The fields of one view leave the validity and the range (R28). -/
theorem withViewFields_range {p : ApertureParams} {a b : Aperture} (h : withViewFields p a = some b) :
    b.valid = a.valid ∧ b.base = a.base ∧ b.limit = a.limit := by
  unfold withViewFields at h
  split at h
  · cases h; exact ⟨rfl, rfl, rfl⟩
  · dsimp only at h
    split at h
    · cases h; exact ⟨rfl, rfl, rfl⟩
    · cases h
  · split at h
    · cases h; exact ⟨rfl, rfl, rfl⟩
    · cases h

/-- A valid entry that is written has a range (R18, R28). -/
theorem range_of_apertureEdit {p : ApertureParams} {i : ApertureNo} {a : Aperture}
    (h : apertureEdit p = some (i, a)) (hv : a.valid = true) : a.base < a.limit := by
  unfold apertureEdit at h
  split at h
  case h_1 valid view violation _ _ _ _ =>
    split at h
    case isTrue hchecks =>
      obtain ⟨b, hb, heq⟩ := Option.map_eq_some_iff.mp h
      cases heq
      obtain ⟨hvalid, hbase, hlimit⟩ := withViewFields_range hb
      have htrue : valid = true := by rw [← hv, hvalid]; rfl
      subst htrue
      rw [hbase, hlimit]
      simp only [baseEntry]
      simp only [Bool.and_eq_true, Bool.or_eq_true, Bool.not_eq_true', decide_eq_true_eq] at hchecks
      exact hchecks.2.resolve_left (by simp)
    case isFalse => cases h
  case h_2 => cases h

theorem writeApertureReply_moves (p : ApertureParams) (s : State) :
    Moves strict s (writeApertureReply p s).state := by
  unfold writeApertureReply
  split
  case h_1 => exact Moves.refl s
  case h_2 i a hedit =>
    split
    case isTrue => exact Moves.refl s
    case isFalse hconflict =>
      split
      case isTrue => exact Moves.refl s
      case isFalse =>
        have hafter : apertureConflict
            (abandonWhere .reconfigured (fun e => decide (e.aperture = i)) s) i a = false := by
          obtain ⟨_, _, _, _, _, _, heq⟩ :=
            abandonWhere_changes .reconfigured (fun e => decide (e.aperture = i)) s
          rw [heq]
          exact Bool.not_eq_true _ ▸ hconflict
        exact (abandonWhere_moves _ _ s).trans
          (Move.aperture i a _ hafter (range_of_apertureEdit hedit)).moves

theorem clearSaturation_aside (i : ApertureNo) (s : State) : Aside s (clearSaturation i s) :=
  setAperture_aside (s := s) (i := i) (b := { s.apertures[i] with saturation := 0 }) rfl

theorem readApertureReply_moves (entry clear : Byte) (s : State) :
    Moves strict s (readApertureReply entry clear s).state := by
  unfold readApertureReply
  split
  · dsimp only
    split
    · exact (clearSaturation_aside _ s).moves
    · exact Moves.refl s
  · exact Moves.refl s

theorem writeMaskReply_moves (i : Byte) (mask : BitVec 16) (s : State) :
    Moves strict s (writeMaskReply i mask s).state := by
  unfold writeMaskReply
  split
  · exact Aside.moves ⟨⟨rfl, rfl, fun _ => rfl, rfl, rfl, rfl, rfl, rfl, rfl, rfl, rfl, rfl, rfl, rfl, id⟩,
        rfl, rfl, rfl⟩
  · exact Moves.refl s

theorem readMaskReply_moves (i : Byte) (s : State) : Moves strict s (readMaskReply i s).state := by
  unfold readMaskReply
  split <;> exact Moves.refl s

theorem writeStreamReply_moves (p : StreamParams) (s : State) : Moves strict s (writeStreamReply p s).state := by
  unfold writeStreamReply
  split
  · exact Moves.refl s
  · split
    case isTrue => exact Moves.refl s
    case isFalse h => exact (Move.stream _ _ s (Bool.not_eq_true _ ▸ h)).moves

theorem readStreamReply_moves (entry : Byte) (s : State) : Moves strict s (readStreamReply entry s).state := by
  unfold readStreamReply
  split <;> exact Moves.refl s

/-- WRITE_SERVICE's G is less than its P (R110). -/
theorem guard_lt_of_serviceEdit {p : ServiceParams} {i : ServiceNo} {policy : ClearOrNull}
    (h : serviceEdit p = some (i, policy)) : p.guard.toNat < p.period.toNat := by
  unfold serviceEdit at h
  split at h
  case h_1 =>
    dsimp only at h
    split at h
    case isTrue hchecks =>
      simp only [Bool.and_eq_true, decide_eq_true_eq] at hchecks
      exact hchecks.2
    case isFalse => cases h
  case h_2 => cases h

theorem writeServiceReply_moves (p : ServiceParams) (s : State) :
    Moves strict s (writeServiceReply p s).state := by
  unfold writeServiceReply
  split
  case h_1 => exact Moves.refl s
  case h_2 i policy hedit =>
    have hkept : ServiceKept s.services[i] { s.services[i] with
        period := p.period.toNat, guard := p.guard.toNat, limit := p.limit.toNat, policy := policy } :=
      ⟨id, fun _ => guard_lt_of_serviceEdit hedit, fun q => by cases q <;> rfl,
        fun q => by cases q <;> exact id⟩
    exact (putService_moves hkept).trans (retireBoth_moves _ _)

theorem readServiceReply_moves (service : Byte) (s : State) :
    Moves strict s (readServiceReply service s).state := by
  unfold readServiceReply
  split <;> exact Moves.refl s

theorem loadKeyReply_moves (service phase : Byte) (word : ControlWord) (s : State) :
    Moves strict s (loadKeyReply service phase word s).state := by
  unfold loadKeyReply
  dsimp only
  split
  case h_1 =>
    split
    case isTrue => exact Moves.refl s
    case isFalse =>
      split
      case h_1 => exact Moves.refl s
      case h_2 => exact Moves.refl s
      case h_3 h => exact (putService_moves (serviceKept_loaded word (.inl h))).trans (afterLoad_moves _ _ _)
      case h_4 h => exact (putService_moves (serviceKept_loaded word (.inr h))).trans (afterLoad_moves _ _ _)
  case h_2 => exact Moves.refl s

theorem stopReply_moves (service : Byte) (s : State) : Moves strict s (stopReply service s).state := by
  unfold stopReply
  split
  · exact Moves.refl s
  · split
    · exact Moves.refl s
    · exact putService_moves (serviceKept_stopped _)

/-- A service without state IDLE's restriction has no ACTIVE slot while it is IDLE (R109). -/
theorem serviceKept_started {v : Service} {p : Phase} (h : v.state = .idle) :
    ServiceKept v (started p v) := by
  constructor
  case active =>
    intro hlaw
    exact (serviceKept_activated p v.period 0 (hlaw.2.2 h)).active hlaw
  case guard => cases p <;> exact id
  case users => intro q; cases p <;> cases q <;> rfl
  case used =>
    intro q
    cases p <;> cases q <;> simp [slotUsed, started, keySlot, withKeySlot]

theorem startReply_moves (service phase : Byte) (s : State) :
    Moves strict s (startReply service phase s).state := by
  unfold startReply
  dsimp only
  split
  · split
    case isTrue => exact Moves.refl s
    case isFalse hidle =>
      split
      · exact Moves.refl s
      · exact putService_moves (serviceKept_started (not_not.mp hidle))
  · exact Moves.refl s

theorem flipReply_moves (service : Byte) (s : State) : Moves strict s (flipReply service s).state := by
  unfold flipReply
  dsimp only
  split
  · exact Moves.refl s
  · split
    · exact Moves.refl s
    · exact Moves.refl s
    · exact Moves.refl s
    · split
      · exact flipService_moves _ s
      · exact Moves.refl s

theorem holdLaw_enterLocal (b : Timebase) : holdLaw (enterLocal b) :=
  ⟨fun _ => rfl, fun h => by simp [enterLocal] at h⟩

theorem holdLaw_selectSource {reference : Bool} {b : Timebase} (h : holdLaw b) :
    holdLaw (selectSource reference b) := by
  unfold selectSource
  split
  · exact h
  · exact holdLaw_enterLocal b
  · exact ⟨fun hs => by simp at hs, fun hs => by simp at hs⟩
  · exact h

theorem writeTimebaseReply_moves (p : TimebaseParams) (s : State) :
    Moves strict s (writeTimebaseReply p s).state := by
  unfold writeTimebaseReply
  split
  · exact Moves.refl s
  · exact setTime_moves fun h => holdLaw_selectSource h

theorem acceptLocalReply_moves (s : State) : Moves strict s (acceptLocalReply s).state := by
  unfold acceptLocalReply
  split
  · exact setTime_moves fun _ => holdLaw_enterLocal _
  · exact setTime_moves fun _ => holdLaw_enterLocal _
  all_goals exact Moves.refl s

theorem setBoundary_aside (b : Nat) (s : State) : Aside s { s with boundary := b } :=
  ⟨⟨rfl, rfl, fun _ => rfl, rfl, rfl, rfl, rfl, rfl, rfl, rfl, rfl, rfl, rfl, rfl, id⟩, rfl, rfl, rfl⟩

theorem writeJobReply_moves (p : JobParams) (s : State) : Moves strict s (writeJobReply p s).state := by
  unfold writeJobReply
  split
  case h_1 => exact Moves.refl s
  case h_2 j c _ =>
    split
    case isTrue => exact Moves.refl s
    case isFalse =>
      have hput : Moves strict s (putJob j { s.jobs[j] with config := c } s) := putJob_moves Iff.rfl
      exact (hput.trans (setBoundary_aside _ _).moves).trans (actOnEnable_moves j _)

theorem readJobReply_moves (slot clear : Byte) (s : State) : Moves strict s (readJobReply slot clear s).state := by
  unfold readJobReply
  split
  · dsimp only
    split
    · exact putJob_moves Iff.rfl
    · exact Moves.refl s
  · exact Moves.refl s

theorem triggerOne_moves (j : JobNo) (s : State) : Moves strict s (select (triggerSlot j s)) :=
  (triggerSlot_moves j s).trans (select_moves _)

theorem triggerAll_moves (r : Trigger) (s : State) : Moves strict s (select (deliver r s)) :=
  (deliver_moves r s).trans (select_moves _)

theorem triggerJobReply_moves (slot : Byte) (s : State) : Moves strict s (triggerJobReply slot s).state := by
  unfold triggerJobReply
  split
  case h_1 j _ => exact done_moves (triggerOne_moves j s)
  case h_2 =>
    split
    · exact done_moves (triggerAll_moves .command s)
    · exact Moves.refl s

theorem readCaptureReply_moves (s : State) : Moves strict s (readCaptureReply s).state := by
  unfold readCaptureReply
  split
  case h_1 => exact Moves.refl s
  case h_2 rest h =>
    refine (Move.captured rest s fun hlimit => ?_).moves
    rw [h, List.length_cons] at hlimit
    omega

theorem setOverrun_aside (b : Bool) (s : State) : Aside s { s with overrun := b } :=
  ⟨⟨rfl, rfl, fun _ => rfl, rfl, rfl, rfl, rfl, rfl, rfl, rfl, rfl, rfl, rfl, rfl, id⟩, rfl, rfl, rfl⟩

theorem clearEventsReply_moves (a b c d : Byte) (s : State) :
    Moves strict s (clearEventsReply a b c d s).state := by
  unfold clearEventsReply
  split
  · exact moves_foldl _ (fun t x => (Move.cleared x t).moves) _ s
  · exact Moves.refl s

theorem writeEventEnablesReply_moves (group set : Byte) (s : State) :
    Moves strict s (writeEventEnablesReply group set s).state := by
  unfold writeEventEnablesReply
  split
  · exact Moves.refl s
  · split
    · exact Moves.refl s
    · exact (Move.enabled _ _ s).moves

theorem ackGroupReply_moves (group : Byte) (s : State) : Moves strict s (ackGroupReply group s).state := by
  unfold ackGroupReply
  split
  · exact Moves.refl s
  · exact (Move.acknowledged _ s).moves

theorem resetAnswer_aside (s : State) (e : PendingEntry) : Aside s (resetAnswer s e) := by
  unfold resetAnswer
  split
  · exact deliverUpstream_aside _ s
  · exact Aside.refl s

theorem mergeLaw_emptyList (h : MergeLaw s) : MergeLaw { s with pendingList := [] } :=
  mergeLaw_of_list (s := s) rfl rfl (fun _ he => absurd he List.not_mem_nil)
    (fun _ ⟨_, _, _, _, _, hseg, _⟩ => absurd hseg (by simp [segmentOf, entryOf])) h

theorem mergeLaw_emptyTable (h : MergeLaw s) : MergeLaw { s with mergeTable := [] } :=
  ⟨Nat.zero_le _, List.nodup_nil, h.2.2.1, fun _ hm => absurd hm List.not_mem_nil,
    fun _ hm => absurd hm List.not_mem_nil⟩

theorem resetRequests_moves (s : State) : Moves strict s (resetRequests s) :=
  (moves_foldl resetAnswer (fun t e => (resetAnswer_aside t e).moves) _ s).trans
    ((setPendingList_onPath (x := []) fun _ => Nat.zero_le _).moves mergeLaw_emptyList)

theorem resetAccesses_aside (s : State) : Aside s (resetAccesses s) :=
  ⟨⟨rfl, rfl, fun _ => rfl, rfl, rfl, rfl, rfl, rfl, rfl, rfl, rfl, rfl, rfl, rfl, id⟩, rfl, rfl, rfl⟩

theorem pathReset_moves (s : State) : Moves strict s (pathReset s) := by
  have haccesses : Moves strict s (resetAccesses (resetRequests s)) :=
    (resetRequests_moves s).trans (resetAccesses_aside _).moves
  have htracker : Moves strict s (emptyTracker { resetAccesses (resetRequests s) with mergeTable := [] }) :=
    (haccesses.trans ((setMergeTable_onPath [] _).moves mergeLaw_emptyTable)).trans (emptyTracker_moves _)
  unfold pathReset
  dsimp only
  exact (htracker.trans (resetJobs_moves _)).trans (setCause_moves .pathResetDone _)

/-! ### Select periods -/

theorem ignorePeriod_aside (n : Nat) (s : State) : Aside s (ignorePeriod n s) :=
  ⟨⟨rfl, rfl, fun _ => rfl, rfl, rfl, rfl, rfl, rfl, rfl, rfl, rfl, rfl, rfl, rfl, id⟩, rfl, rfl, rfl⟩

theorem answerPeriod_aside (n : Nat) (out : Byte) (r : Reply) : Aside r.state (answerPeriod n out r) :=
  ⟨⟨rfl, rfl, fun _ => rfl, rfl, rfl, rfl, rfl, rfl, rfl, rfl, rfl, rfl, rfl, rfl, id⟩, rfl, rfl, rfl⟩

theorem requestPeriod_moves {reply : State → Reply} (h : ∀ s, Moves strict s (reply s).state) (n : Nat)
    (s : State) : Moves strict s (requestPeriod n reply s) := by
  unfold requestPeriod
  split
  · exact (ignorePeriod_aside n s).moves
  · exact ((settled_moves s).trans (h _)).trans (answerPeriod_aside _ _ _).moves

theorem endRead_aside (n : Nat) (s : State) : Aside s (endRead n s) :=
  ⟨⟨rfl, rfl, fun _ => rfl, rfl, rfl, rfl, rfl, rfl, rfl, rfl, rfl, rfl, rfl, rfl, id⟩, rfl, rfl, rfl⟩

/-! ### Inputs -/

theorem inputEvent_moves {level f : State → State} (hl : ∀ s, Aside s (level s)) (hf : ∀ s, Moves strict s (f s))
    (s : State) : Moves strict s (inputEvent level f s) := by
  unfold inputEvent
  split
  · exact (hl s).moves
  · exact ((settled_moves s).trans (hl _).moves).trans (hf _)

theorem setReference_aside (b : Bool) (s : State) : Aside s (setReference b s) := setTime_aside rfl rfl

theorem setWindow_aside (b : Bool) (s : State) : Aside s (setWindow b s) := setTime_aside rfl rfl

theorem setPurge_aside (b : Bool) (s : State) : Aside s (setPurge b s) :=
  ⟨⟨rfl, rfl, fun _ => rfl, rfl, rfl, rfl, rfl, rfl, rfl, rfl, rfl, rfl, rfl, rfl, id⟩, rfl, rfl, rfl⟩

/-- HOLDOVER keeps the hold of LOCKED, clear (R136). -/
theorem loseReference_moves (s : State) : Moves strict s (loseReference s) := by
  unfold loseReference
  split
  case h_1 hlocked =>
    refine (setTime_moves fun h => ?_).trans (setCause_moves _ _)
    exact ⟨fun _ => h.1 (.inr (.inl hlocked)), fun hs => by simp at hs⟩
  case h_2 =>
    exact (setTime_aside (s := s) (b := { s.time with qualification := 0 }) rfl rfl).moves
  all_goals exact Moves.refl s

theorem regainReference_moves (s : State) : Moves strict s (regainReference s) := by
  have hacquiring : Moves strict s
      { s with time := { s.time with state := .acquiring, qualification := 0, countdown := 0 } } :=
    setTime_moves fun _ => ⟨fun hs => by simp at hs, fun hs => by simp at hs⟩
  unfold regainReference
  split
  · exact hacquiring
  · exact hacquiring
  all_goals exact Moves.refl s

/-! ### The step -/

/-- The state that a command leaves. -/
def after (i : Instr) (s : State) : State :=
  match exec i s with
  | .next t => t
  | .fault _ => s
  | .refused _ => s

/-- Every command answers a next state: the part has no stop (log 21). -/
theorem exec_next (i : Instr) (s : State) : ∃ t, exec i s = .next t := by
  cases i <;> exact ⟨_, rfl⟩

theorem exec_eq_after (i : Instr) (s : State) : exec i s = .next (after i s) := by
  obtain ⟨t, h⟩ := exec_next i s
  unfold after
  rw [h]

/-- Every command but those of the reset input is a chain of moves, a strict one where no sample segment
is handed and no merge entry acts. -/
theorem after_moves (i : Instr) (s : State) (ha : i ≠ .resetAssertion) (hp : i ≠ .powerUp)
    (hr : ∀ levels, i ≠ .resetRelease levels)
    (hm : strict = true → (∀ arrivals, i ≠ .takeRequest arrivals) ∧ ∀ answer, i ≠ .memoryAnswer answer) :
    Moves strict s (after i s) := by
  cases i with
  | takeRequest arrivals =>
    obtain rfl : strict = false := Bool.eq_false_iff.mpr fun h => (hm h).1 arrivals rfl
    exact (setUpstream_aside _ s).moves.trans
      (whenRunning_moves (fun s => (settled_moves s).trans (arbitrate_moves _)) _)
  | issueAccess swap =>
    exact whenRunning_moves (fun s => (settled_moves s).trans (issueNext_aside swap _).moves) s
  | memoryAnswer answer =>
    obtain rfl : strict = false := Bool.eq_false_iff.mpr fun h => (hm h).2 answer rfl
    exact whenRunning_moves (fun s => (settled_moves s).trans (matchAnswer_moves answer _)) s
  | releaseResponse owner =>
    exact whenRunning_moves (fun s => (settled_moves s).trans (releaseOldest_moves owner _)) s
  | tick => exact whenRunning_moves (fun s => (settled_moves s).trans (makeTick_moves _)) s
  | idleClose => exact whenRunning_moves closeWhenOpen_moves s
  | retirement service phase => exact whenRunning_moves (retire_moves service phase) s
  | expiry service => exact whenRunning_moves (actOnExpiry_moves service) s
  | referenceQualified => exact whenRunning_moves qualify_moves s
  | holdoverEnd => exact whenRunning_moves endHoldover_moves s
  | referenceLost =>
    unfold after exec execReferenceLost
    dsimp only
    split
    · exact inputEvent_moves (setReference_aside false) loseReference_moves s
    · exact Moves.refl s
  | referenceReturned =>
    unfold after exec execReferenceReturned
    dsimp only
    split
    · exact Moves.refl s
    · exact inputEvent_moves (setReference_aside true) regainReference_moves s
  | frameStart =>
    exact inputEvent_moves Aside.refl (fun s => (deliver_moves _ s).trans (select_moves _)) s
  | windowOpening =>
    unfold after exec execWindowOpening
    dsimp only
    split
    · exact Moves.refl s
    · exact inputEvent_moves (setWindow_aside true) select_moves s
  | windowClosing =>
    unfold after exec execWindowClosing
    dsimp only
    split
    · exact inputEvent_moves (setWindow_aside false) windowCloses_moves s
    · exact Moves.refl s
  | purgeAssertion =>
    unfold after exec execPurgeAssertion
    dsimp only
    split
    · exact Moves.refl s
    · exact inputEvent_moves (setPurge_aside true) keyPurge_moves s
  | purgeRelease =>
    unfold after exec execPurgeRelease
    dsimp only
    split
    · exact inputEvent_moves (setPurge_aside false) Moves.refl s
    · exact Moves.refl s
  | resetAssertion => exact absurd rfl ha
  | resetRelease levels => exact absurd rfl (hr levels)
  | powerUp => exact absurd rfl hp
  | readPeriod edges =>
    unfold after exec execReadPeriod
    dsimp only
    split
    · exact (ignorePeriod_aside _ s).moves
    · split
      · exact Moves.refl s
      · exact (settled_moves s).trans (endRead_aside _ _).moves
  | badFrame period =>
    unfold after exec execBadFrame
    dsimp only
    split
    · exact requestPeriod_moves Moves.refl _ s
    · exact Moves.refl s
  | badCommand code params =>
    unfold after exec execBadCommand
    dsimp only
    split
    · exact requestPeriod_moves Moves.refl _ s
    · exact Moves.refl s
  | writePath action limit => exact requestPeriod_moves (writePathReply_moves action limit) 5 s
  | readPath => exact requestPeriod_moves Moves.refl 3 s
  | writeAperture params => exact requestPeriod_moves (writeApertureReply_moves params) 26 s
  | readAperture entry clear => exact requestPeriod_moves (readApertureReply_moves entry clear) 5 s
  | writeMask initiator mask => exact requestPeriod_moves (writeMaskReply_moves initiator mask) 6 s
  | readMask initiator => exact requestPeriod_moves (readMaskReply_moves initiator) 4 s
  | writeStream params => exact requestPeriod_moves (writeStreamReply_moves params) 13 s
  | readStream entry => exact requestPeriod_moves (readStreamReply_moves entry) 4 s
  | writeService params => exact requestPeriod_moves (writeServiceReply_moves params) 10 s
  | readService service => exact requestPeriod_moves (readServiceReply_moves service) 4 s
  | loadKey service phase word => exact requestPeriod_moves (loadKeyReply_moves service phase word) 21 s
  | stop service => exact requestPeriod_moves (stopReply_moves service) 4 s
  | start service phase => exact requestPeriod_moves (startReply_moves service phase) 5 s
  | flip service => exact requestPeriod_moves (flipReply_moves service) 4 s
  | writeTimebase params => exact requestPeriod_moves (writeTimebaseReply_moves params) 9 s
  | readTimebase => exact requestPeriod_moves Moves.refl 3 s
  | acceptLocal => exact requestPeriod_moves acceptLocalReply_moves 3 s
  | writeJob params => exact requestPeriod_moves (writeJobReply_moves params) 29 s
  | readJob slot clear => exact requestPeriod_moves (readJobReply_moves slot clear) 5 s
  | triggerJob slot => exact requestPeriod_moves (triggerJobReply_moves slot) 4 s
  | readCapture => exact requestPeriod_moves readCaptureReply_moves 3 s
  | readEvents => exact requestPeriod_moves Moves.refl 3 s
  | clearEvents path keys jobs timebase =>
    exact requestPeriod_moves (clearEventsReply_moves path keys jobs timebase) 7 s
  | writeEventEnables group set =>
    exact requestPeriod_moves (writeEventEnablesReply_moves group set) 5 s
  | ackGroup group => exact requestPeriod_moves (ackGroupReply_moves group) 4 s
  | clearOverrun =>
    exact requestPeriod_moves (reply := fun t => done { t with overrun := false })
      (fun t => done_moves (setOverrun_aside false t).moves) 3 s
  | pathReset =>
    exact requestPeriod_moves (reply := fun t => done (pathReset t))
      (fun t => done_moves (pathReset_moves t)) 3 s
  | keyPurge =>
    exact requestPeriod_moves (reply := fun t => done (keyPurge t))
      (fun t => done_moves (keyPurge_moves t)) 3 s

theorem idle_moves (s : State) : Moves strict s (idle s) :=
  whenRunning_moves (fun s => (settled_moves s).trans (clockEdge_moves _ _)) s

/-- A step is the front command's or the idle step. -/
theorem step_eq (s : State) : step s = .next
    (match s.pending with
    | c :: rest => after c { s with pending := rest }
    | [] => idle s) := by
  unfold step
  cases s.pending with
  | nil => rfl
  | cons c rest => exact exec_eq_after c _

/-- A command is a chain of moves, or the reset input acts. -/
theorem after_moves_or (i : Instr) (s : State) : Moves false s (after i s) ∨ Outer s (after i s) := by
  by_cases ha : i = .resetAssertion
  · exact .inr (ha ▸ .powered s)
  by_cases hp : i = .powerUp
  · exact .inr (hp ▸ .powered s)
  by_cases hr : ∃ levels, i = .resetRelease levels
  · obtain ⟨levels, rfl⟩ := hr
    unfold after exec execResetRelease
    dsimp only
    split
    · exact .inr (.released levels s)
    · exact .inl (Moves.refl s)
  exact .inl (after_moves i s ha hp (fun levels h => hr ⟨levels, h⟩) Bool.noConfusion)

/-- What every move and the reset input keep, every step keeps. -/
theorem step_keeps {P : State → Prop} (keep : ∀ s t, Move false s t → P s → P t)
    (outer : ∀ s t, Outer s t → P s → P t) {s t : State} (hs : P s) (h : step s = .next t) : P t := by
  rw [step_eq] at h
  injection h with h
  subst h
  split
  case h_1 c rest _ =>
    have hqueued : P { s with pending := rest } := outer _ _ (.queued rest s) hs
    exact (after_moves_or c _).elim (fun hm => hm.keep keep hqueued) (fun ho => outer _ _ ho hqueued)
  case h_2 => exact (idle_moves s).keep keep hs

end Sys2Proof.Machine
end

section
/-! SUPPORT. Every move keeps the laws of the part: the limits, the raised groups, the service and hold laws,
the one running slot, the tables, and the counted users (R5, R18, R29, R79, R85, R88, R109, R110, R136, R144,
R165, R170). -/

namespace Sys2Proof.Machine

variable {s : State} {strict : Bool} {P : State → Prop}

/-! ### Laws that leave the tracker out -/

/-- What a service is with another user count on one slot. -/
def withUsers (p : Phase) (n : Nat) (v : Service) : Service :=
  withKeySlot p { keySlot v p with users := n } v

/-- The small changes that change no user and no entry. -/
structure KeptQuiet (P : State → Prop) : Prop where
  aside : ∀ {s t}, Aside s t → P s → P t
  cause : ∀ c s, P s → P (setCause c s)
  captured : ∀ c s, (s.capture.length ≤ 48 → c.length ≤ 48) → P s → P { s with capture := c }
  services : ∀ (v : Vector Service 24) s, (∀ i : ServiceNo, ServiceKept s.services[i] v[i]) → P s →
    P { s with services := v }

/-- The small changes that a law which says nothing of the tracker and of the users keeps. -/
structure KeptBeside (P : State → Prop) : Prop extends KeptQuiet P where
  users : ∀ (i : ServiceNo) p n s, P s →
    P { s with services := s.services.set i (withUsers p n s.services[i]) }
  tracker : ∀ x s, P s → P { s with tracker := x }

namespace KeptQuiet

theorem offer (h : KeptQuiet P) (r : CaptureRecord) (hs : P s) : P (offer r s) := by
  unfold Machine.offer
  dsimp only
  split
  case isTrue hroom =>
    have hcapture : P { s with capture := s.capture ++ [r] } := by
      refine h.captured _ s (fun _ => ?_) hs
      simp only [Config.captureLimit] at hroom
      simpa using hroom
    split
    · exact h.cause _ _ hcapture
    · exact hcapture
  case isFalse => exact h.cause _ _ (h.aside (setOverrun_aside true s) hs)

/-- A slot that is due becomes EMPTY (R123). -/
theorem retire (h : KeptQuiet P) (i : ServiceNo) (p : Phase) (hs : P s) : P (retire i p s) := by
  unfold Machine.retire
  dsimp only
  split
  case isTrue hdue =>
    have hkept : P { s with
        services := s.services.set i (withKeySlot p (emptied (keySlot s.services[i] p)) s.services[i]) } := by
      refine h.services _ s (fun k => ?_) hs
      by_cases hk : i = k
      case pos => subst hk; simpa using serviceKept_emptied hdue
      case neg => simpa [Vector.getElem_set_ne, Fin.val_ne_iff.mpr hk] using ServiceKept.refl _
    unfold putService
    dsimp only
    split
    · exact h.cause _ _ hkept
    · exact hkept
  case isFalse => exact hs

end KeptQuiet

namespace KeptBeside

theorem putUsers (h : KeptBeside P) (i : ServiceNo) (p : Phase) (n : Nat) (hs : P s) :
    P (putService i (withUsers p n s.services[i]) s) := by
  unfold putService
  dsimp only
  split
  · exact h.cause _ _ (h.users i p n s hs)
  · exact h.users i p n s hs

theorem dropUse (h : KeptBeside P) (d : Disposition) (hs : P s) : P (dropUse d s) := by
  cases d with
  | scramble i p => exact h.toKeptQuiet.retire i p (h.putUsers i p _ hs)
  | clear => exact hs
  | pass => exact hs
  | null => exact hs

theorem takeUse (h : KeptBeside P) (d : Disposition) (hs : P s) : P (takeUse d s) := by
  cases d with
  | scramble i p => exact h.putUsers i p _ hs
  | clear => exact hs
  | pass => exact hs
  | null => exact hs

theorem closeEntry (h : KeptBeside P) (e : TrackerEntry) (hs : P s) : P (closeEntry e s) :=
  h.dropUse e.disposition (h.tracker _ s hs)

theorem abandon (h : KeptBeside P) (reason : CloseReason) (e : TrackerEntry) (hs : P s) :
    P (abandon reason e s) := h.closeEntry e (h.toKeptQuiet.offer _ hs)

theorem abandonAll (h : KeptBeside P) (reason : CloseReason) (es : List TrackerEntry) (hs : P s) :
    P (abandonAll reason es s) := by
  unfold Machine.abandonAll
  induction es generalizing s with
  | nil => exact hs
  | cons e es ih => exact ih (h.abandon reason e hs)

theorem abandonWhere (h : KeptBeside P) (reason : CloseReason) (test : TrackerEntry → Bool) (hs : P s) :
    P (abandonWhere reason test s) := h.abandonAll reason _ hs

theorem supersede (h : KeptBeside P) (slot : Addr) (hs : P s) : P (supersede slot s) := by
  unfold Machine.supersede
  split
  · exact h.closeEntry _ hs
  · exact hs

theorem makeRoom (h : KeptBeside P) (hs : P s) : P (makeRoom s) := by
  unfold Machine.makeRoom
  split
  · exact hs
  · split
    · exact h.abandon _ _ hs
    · exact hs

theorem openEntry (h : KeptBeside P) (e : TrackerEntry) (hs : P s) : P (openEntry e s) :=
  h.takeUse e.disposition (h.tracker _ _ (h.makeRoom (h.supersede e.slot hs)))

end KeptBeside

/-! ### Causes and groups (R168, R170, R171) -/

theorem mem_groupCauses (c : Cause) (g : Group) : c ∈ groupCauses g ↔ causeGroup c = g := by
  cases c <;> cases g <;> decide

theorem groupDue_iff (s : State) (g : Group) :
    groupDue s g = true ↔ ∃ c, causeGroup c = g ∧ flagOf s c = true ∧ enableOf s c = true := by
  simp [groupDue, mem_groupCauses]

theorem enableOf_setCause (c d : Cause) (s : State) : enableOf (setCause c s) d = enableOf s d := by
  simp [enableOf]

theorem groupsRaised_iff (s : State) : GroupsRaised s ↔
    ∀ c, flagOf s c = true → enableOf s c = true → raisedOf s (causeGroup c) = true := by
  simp only [GroupsRaised, groupDue_iff]
  exact ⟨fun h c hf he => h _ ⟨c, rfl, hf, he⟩, fun h g ⟨c, hc, hf, he⟩ => hc ▸ h c hf he⟩

theorem groupsRaised_setCause (c : Cause) (h : GroupsRaised s) : GroupsRaised (setCause c s) := by
  rw [groupsRaised_iff] at h ⊢
  intro d hf he
  rw [flagOf_setCause, Bool.or_eq_true, decide_eq_true_eq] at hf
  rw [enableOf_setCause] at he
  rw [raisedOf_setCause, Bool.or_eq_true]
  obtain hf | rfl := hf
  · exact .inl (h d hf he)
  · exact .inr (by simp [he])

theorem flagOf_clearCause {c d : Cause} (h : flagOf (clearCause c s) d = true) : flagOf s d = true := by
  by_cases hd : d = c
  · subst hd; simp [flagOf, clearCause] at h
  · simpa [flagOf, clearCause, Vector.getElem_set_ne, causeIndex_ne hd] using h

theorem raisedOf_raiseIfDue (g k : Group) (s : State) :
    raisedOf (raiseIfDue g s) k = (raisedOf s k || (decide (k = g) && groupDue s g)) := by
  unfold raiseIfDue
  split
  case isTrue hdue =>
    by_cases hk : k = g
    · subst hk; simp [raisedOf, raiseGroup, hdue]
    · simp [raisedOf, raiseGroup, hk, Vector.getElem_set_ne, groupIndex_ne hk]
  case isFalse hdue => simp [hdue]

theorem groupDue_raiseIfDue (g k : Group) (s : State) : groupDue (raiseIfDue g s) k = groupDue s k := by
  simp [groupDue, flagOf, enableOf]

/-- Raising one group if it is due suffices, when the others keep the law. -/
theorem groupsRaised_raiseIfDue {g : Group} (h : ∀ k, k ≠ g → groupDue s k = true → raisedOf s k = true) :
    GroupsRaised (raiseIfDue g s) := by
  intro k hdue
  rw [groupDue_raiseIfDue] at hdue
  rw [raisedOf_raiseIfDue, Bool.or_eq_true]
  by_cases hk : k = g
  · subst hk; exact .inr (by simp [hdue])
  · exact .inl (h k hk hdue)

/-- The enables of the causes outside a list are as they were. -/
theorem enables_foldl_of_not_mem (set : List Cause) (l : List Cause) (s : State) {d : Cause} (hd : d ∉ l) :
    enableOf (l.foldl (fun s c => { s with enables := s.enables.set (causeIndex c) (set.contains c) }) s) d
      = enableOf s d := by
  induction l generalizing s with
  | nil => rfl
  | cons c l ih =>
    obtain ⟨hne, hl⟩ := not_or.mp (mt List.mem_cons.mpr hd)
    rw [List.foldl_cons, ih _ hl]
    simp [enableOf, Vector.getElem_set_ne, causeIndex_ne hne]

theorem flags_foldl_enables (set : List Cause) (l : List Cause) (s : State) :
    (l.foldl (fun s c => { s with enables := s.enables.set (causeIndex c) (set.contains c) }) s).flags
      = s.flags ∧
    (l.foldl (fun s c => { s with enables := s.enables.set (causeIndex c) (set.contains c) }) s).raised
      = s.raised := by
  induction l generalizing s with
  | nil => exact ⟨rfl, rfl⟩
  | cons c l ih => rw [List.foldl_cons]; exact ih _

theorem groupsRaised_setEnables (g : Group) (set : List Cause) (h : GroupsRaised s) :
    GroupsRaised (setEnables g set s) := by
  refine groupsRaised_raiseIfDue fun k hk hdue => ?_
  obtain ⟨hflags, hraised⟩ := flags_foldl_enables set (groupCauses g) s
  obtain ⟨c, hc, hflag, henable⟩ := (groupDue_iff _ k).mp hdue
  have hout : c ∉ groupCauses g := fun hmem => hk (hc.symm.trans ((mem_groupCauses c g).mp hmem))
  rw [enables_foldl_of_not_mem set _ s hout] at henable
  unfold raisedOf
  unfold flagOf at hflag
  rw [hraised]
  rw [hflags] at hflag
  exact h k ((groupDue_iff s k).mpr ⟨c, hc, hflag, henable⟩)

theorem groupsRaised_acknowledge (g : Group) (h : GroupsRaised s) : GroupsRaised (acknowledge g s) := by
  refine groupsRaised_raiseIfDue fun k hk hdue => ?_
  have hraised : raisedOf s k = true := h k hdue
  simpa [raisedOf, Vector.getElem_set_ne, groupIndex_ne hk] using hraised

/-- The law speaks of the flags, the enables and the groups alone. -/
theorem groupsRaised_congr {t : State} (hf : t.flags = s.flags) (he : t.enables = s.enables)
    (hr : t.raised = s.raised) (h : GroupsRaised s) : GroupsRaised t := by
  simpa only [GroupsRaised, groupDue, flagOf, enableOf, raisedOf, hf, he, hr] using h

theorem groupsRaised_beside : KeptBeside GroupsRaised where
  aside h := groupsRaised_congr h.flags h.enables h.raised
  cause c _ := groupsRaised_setCause c
  captured _ _ _ h := h
  services _ _ _ h := h
  users _ _ _ _ h := h
  tracker _ _ h := h

theorem groupsRaised_powerOn (s : State) : GroupsRaised (powerOn s) := by
  have hflags : ∀ c, flagOf (powerOn s) c = false := fun c => by cases c <;> rfl
  rw [groupsRaised_iff]
  intro c h
  rw [hflags c] at h
  exact absurd h Bool.false_ne_true

/-- A run that starts changes the job slots and the run alone (R151, R153). -/
theorem startRun_eq (j : JobNo) (s : State) : ∃ v r,
    startRun j s = { s with jobs := s.jobs.set j v, run := some r } ∧ v.state = .running ∧ r.slot = j :=
  ⟨_, _, rfl, rfl, rfl⟩

theorem groupsRaised_kept (s t : State) (h : Move strict s t) (hs : GroupsRaised s) : GroupsRaised t := by
  cases h with
  | aside h => exact groupsRaised_beside.aside h hs
  | path h => exact groupsRaised_congr h.flags h.enables h.raised hs
  | cause c => exact groupsRaised_setCause c hs
  | cleared c =>
    rw [groupsRaised_iff] at hs ⊢
    exact fun d hf he => hs d (flagOf_clearCause hf) he
  | enabled g set => exact groupsRaised_setEnables g set hs
  | acknowledged g => exact groupsRaised_acknowledge g hs
  | closed e => exact groupsRaised_beside.closeEntry e hs
  | abandoned reason test => exact groupsRaised_beside.abandonWhere reason test hs
  | opened e => exact groupsRaised_beside.openEntry e hs
  | started j =>
    obtain ⟨v, r, heq, -⟩ := startRun_eq j s
    rw [heq]
    exact hs
  | captured => exact hs
  | aperture => exact hs
  | stream => exact hs
  | time => exact hs
  | services => exact hs
  | marked => exact hs
  | purged => exact groupsRaised_congr (s := s) rfl rfl rfl hs
  | emptied => exact groupsRaised_congr (s := s) rfl rfl rfl hs
  | jobs => exact hs
  | moved => exact hs
  | left j x =>
    change GroupsRaised { s with jobs := s.jobs.set j x, run := none }
    exact hs

theorem groupsRaised_outer (s t : State) (h : Outer s t) (hs : GroupsRaised s) : GroupsRaised t := by
  cases h with
  | queued => exact hs
  | released => exact groupsRaised_congr (s := s) rfl rfl rfl hs
  | powered => exact groupsRaised_powerOn s

end Sys2Proof.Machine
end

section
/-! SUPPORT. Every move keeps the limits, the service and hold laws, the one running slot and the tables
(R5, R18, R29, R79, R85, R109, R110, R136, R144, R165). -/

namespace Sys2Proof.Machine

variable {s : State} {strict : Bool}

/-- A change of the enables leaves everything but the enables and the groups (R169). -/
theorem setEnables_eq (g : Group) (set : List Cause) (s : State) :
    ∃ e r, setEnables g set s = { s with enables := e, raised := r } := by
  unfold setEnables raiseIfDue
  split
  · cases g <;> exact ⟨_, _, rfl⟩
  · cases g <;> exact ⟨_, _, rfl⟩

/-! ### The limits (R5, R85, R165) -/

/-- The limits of the pending list and of the capture queue (R5, R165). -/
def ListsWithin (s : State) : Prop := s.pendingList.length ≤ 24 ∧ s.capture.length ≤ 48

theorem listsWithin_of {t : State} (hp : s.pendingList.length ≤ 24 → t.pendingList.length ≤ 24)
    (hc : t.capture = s.capture) (h : ListsWithin s) : ListsWithin t := ⟨hp h.1, hc ▸ h.2⟩

theorem listsWithin_beside : KeptBeside ListsWithin where
  aside h := listsWithin_of h.room h.capture
  cause c s := listsWithin_of (by simp) (by simp)
  captured _ _ hlimit h := ⟨h.1, hlimit h.2⟩
  services _ _ _ h := h
  users _ _ _ _ h := h
  tracker _ _ h := h

theorem listsWithin_kept (s t : State) (h : Move strict s t) (hs : ListsWithin s) : ListsWithin t := by
  cases h with
  | aside h => exact listsWithin_beside.aside h hs
  | path h => exact listsWithin_of h.room h.capture hs
  | cause c => exact listsWithin_beside.cause c s hs
  | enabled g set =>
    obtain ⟨_, _, heq⟩ := setEnables_eq g set s
    rw [heq]
    exact hs
  | acknowledged g => exact listsWithin_of (by simp [acknowledge]) (by simp [acknowledge]) hs
  | captured c _ hlimit => exact ⟨hs.1, hlimit hs.2⟩
  | closed e => exact listsWithin_beside.closeEntry e hs
  | abandoned reason test => exact listsWithin_beside.abandonWhere reason test hs
  | opened e => exact listsWithin_beside.openEntry e hs
  | started j =>
    obtain ⟨v, r, heq, -⟩ := startRun_eq j s
    rw [heq]
    exact hs
  | _ => exact listsWithin_of (s := s) id rfl hs

theorem listsWithin_outer (s t : State) (h : Outer s t) (hs : ListsWithin s) : ListsWithin t := by
  cases h with
  | queued => exact hs
  | released => exact hs
  | powered => exact ⟨Nat.zero_le _, Nat.zero_le _⟩

theorem tracker_supersede (slot : Addr) (s : State) :
    (supersede slot s).tracker = s.tracker.filter fun x => x.slot != slot := by
  unfold supersede
  split
  case h_1 e he => rw [tracker_closeEntry, (findEntry_mem he).2]
  case h_2 hnone =>
    refine (List.filter_eq_self.mpr fun x hx => ?_).symm
    simpa [findEntry] using List.find?_eq_none.mp hnone x hx

theorem tracker_takeUse (d : Disposition) (s : State) : (takeUse d s).tracker = s.tracker := by
  cases d <;> simp [takeUse, addUser]

theorem tracker_openEntry (e : TrackerEntry) (s : State) :
    (openEntry e s).tracker = (makeRoom (supersede e.slot s)).tracker ++ [e] := tracker_takeUse _ _

/-- With 20 entries open one is closed, so that one more has room (R87). -/
theorem length_makeRoom_lt (h : s.tracker.length ≤ 20) : (makeRoom s).tracker.length < 20 := by
  unfold makeRoom
  split
  case isTrue hroom => simpa [Config.trackerLimit] using hroom
  case isFalse hfull =>
    simp only [Config.trackerLimit, not_lt] at hfull
    split
    case h_1 e rest heq =>
      rw [tracker_abandon, heq, List.filter_cons_of_neg (by simp)]
      rw [heq, List.length_cons] at h
      exact Nat.lt_of_le_of_lt (List.length_filter_le _ _) (by omega)
    case h_2 heq => simp [heq] at hfull

theorem trackerWithin_kept (s t : State) (h : Move strict s t) (hs : s.tracker.length ≤ 20) :
    t.tracker.length ≤ 20 := by
  cases h with
  | aside h => rwa [h.tracker]
  | path h => rwa [h.tracker]
  | cause c => rwa [setCause_tracker]
  | enabled g set =>
    obtain ⟨_, _, heq⟩ := setEnables_eq g set s
    rw [heq]
    exact hs
  | acknowledged g => simpa [acknowledge] using hs
  | closed e =>
    rw [tracker_closeEntry]
    exact (List.length_filter_le _ _).trans hs
  | abandoned reason test =>
    rw [abandonWhere, tracker_abandonAll]
    exact (List.length_filter_le _ _).trans hs
  | opened e =>
    have hsup : (supersede e.slot s).tracker.length ≤ 20 := by
      rw [tracker_supersede]
      exact (List.length_filter_le _ _).trans hs
    rw [tracker_openEntry, List.length_append]
    exact length_makeRoom_lt hsup
  | marked x _ hslots =>
    have hlength : x.length = s.tracker.length := by simpa using congrArg List.length hslots
    simpa [hlength] using hs
  | started j =>
    obtain ⟨v, r, heq, -⟩ := startRun_eq j s
    rw [heq]
    exact hs
  | emptied => exact Nat.zero_le _
  | _ => exact hs

theorem trackerWithin_outer (s t : State) (h : Outer s t) (hs : s.tracker.length ≤ 20) :
    t.tracker.length ≤ 20 := by
  cases h with
  | queued => exact hs
  | released => exact hs
  | powered => exact Nat.zero_le _

/-! ### The services and the hold (R109, R110, R136) -/

/-- The laws of the services and of the timebase. -/
def ServiceLaws (s : State) : Prop := ActiveLaw s ∧ GuardLaw s ∧ HoldLaw s

theorem serviceLaws_of {t : State} (hv : ∀ i : ServiceNo,
      (activeLaw s.services[i] → activeLaw t.services[i]) ∧
      (s.services[i].guard < s.services[i].period → t.services[i].guard < t.services[i].period))
    (ht : HoldLaw s → HoldLaw t) (h : ServiceLaws s) : ServiceLaws t := by
  obtain ⟨hactive, hguard, hhold⟩ := h
  exact ⟨fun i => (hv i).1 (hactive i), fun i => (hv i).2 (hguard i), ht hhold⟩

/-- The law speaks of the services, the reference state and the hold alone. -/
theorem serviceLaws_congr {t : State} (hv : t.services = s.services)
    (hs : t.time.state = s.time.state) (hh : t.time.hold = s.time.hold) (h : ServiceLaws s) :
    ServiceLaws t :=
  serviceLaws_of (fun i => by rw [hv]; exact ⟨id, id⟩)
    (fun hhold => by simpa only [HoldLaw, hs, hh] using hhold) h

theorem activeLaw_withUsers {v : Service} (p : Phase) (n : Nat) (h : activeLaw v) :
    activeLaw (withUsers p n v) := by
  cases p <;> exact h

theorem guard_withUsers {v : Service} (p : Phase) (n : Nat) (h : v.guard < v.period) :
    (withUsers p n v).guard < (withUsers p n v).period := by
  cases p <;> exact h

theorem serviceLaws_beside : KeptBeside ServiceLaws where
  aside h := serviceLaws_congr h.services h.timeState h.hold
  cause c s := serviceLaws_congr (by simp) (by simp) (by simp)
  captured _ _ _ h := h
  services _ _ hkept := serviceLaws_of (fun i => ⟨(hkept i).active, (hkept i).guard⟩) id
  users i p n s := serviceLaws_of (fun k => by
    by_cases hk : i = k
    · subst hk; simpa using ⟨activeLaw_withUsers p n, guard_withUsers p n⟩
    · simp [Vector.getElem_set_ne, Fin.val_ne_iff.mpr hk]) id
  tracker _ _ h := h

/-- A purge leaves no slot ACTIVE, and no service that runs (R126). -/
theorem activeLaw_purgedService (v : Service) : activeLaw (purgedService v) := by
  unfold purgedService
  dsimp only
  split <;> rename_i h
  · exact ⟨by simp [KeySlot.reset], by rintro (hr | hr) <;> simp [h] at hr,
      fun _ => by simp [activePhase, KeySlot.reset]⟩
  · exact ⟨by simp [KeySlot.reset], by simp, by simp⟩

theorem guard_purgedService {v : Service} (h : v.guard < v.period) :
    (purgedService v).guard < (purgedService v).period := by
  unfold purgedService
  dsimp only
  split <;> exact h

/-- A change that every service takes alike. -/
theorem serviceLaws_mapped (f : Service → Service) (ha : ∀ v, activeLaw v → activeLaw (f v))
    (hg : ∀ v, v.guard < v.period → (f v).guard < (f v).period) (h : ServiceLaws s) :
    ServiceLaws { s with services := Vector.ofFn fun i : Fin 24 => f s.services[i] } := by
  obtain ⟨hactive, hguard, hclear, hset⟩ := h
  have hmapped : ∀ i : ServiceNo,
      (Vector.ofFn fun i : Fin 24 => f s.services[i])[i] = f s.services[i] :=
    fun i => Vector.getElem_ofFn i.isLt
  exact ⟨fun i => (hmapped i).symm ▸ ha _ (hactive i), fun i => (hmapped i).symm ▸ hg _ (hguard i),
    hclear, hset⟩

theorem activeLaw_reset : activeLaw Service.reset :=
  ⟨by decide, fun h => (by rcases h with h | h <;> cases h), fun _ => rfl⟩

theorem serviceLaws_powerOn (s : State) : ServiceLaws (powerOn s) := by
  have hservice : ∀ i : ServiceNo, (powerOn s).services[i] = Service.reset := fun i =>
    Vector.getElem_replicate i.isLt
  refine ⟨fun i => ?_, fun i => ?_, fun _ => rfl, fun h => TimeState.noConfusion h⟩
  · rw [hservice]; exact activeLaw_reset
  · rw [hservice]; decide

theorem serviceLaws_kept (s t : State) (h : Move strict s t) (hs : ServiceLaws s) : ServiceLaws t := by
  cases h with
  | aside h => exact serviceLaws_beside.aside h hs
  | path h => exact serviceLaws_congr h.services h.timeState h.hold hs
  | cause c => exact serviceLaws_beside.cause c s hs
  | enabled g set =>
    obtain ⟨_, _, heq⟩ := setEnables_eq g set s
    rw [heq]
    exact serviceLaws_congr (s := s) rfl rfl rfl hs
  | acknowledged g =>
    exact serviceLaws_congr (by simp [acknowledge]) (by simp [acknowledge]) (by simp [acknowledge]) hs
  | time b _ hb =>
    obtain ⟨hactive, hguard, hhold⟩ := hs
    exact ⟨hactive, hguard, hb hhold⟩
  | services v _ hkept => exact serviceLaws_beside.services v s hkept hs
  | closed e => exact serviceLaws_beside.closeEntry e hs
  | abandoned reason test => exact serviceLaws_beside.abandonWhere reason test hs
  | opened e => exact serviceLaws_beside.openEntry e hs
  | purged =>
    exact serviceLaws_mapped purgedService (fun v _ => activeLaw_purgedService v)
      (fun _ => guard_purgedService) hs
  | emptied =>
    have hmapped := serviceLaws_mapped withoutUsers (fun _ => id) (fun _ => id) hs
    exact serviceLaws_congr rfl rfl rfl hmapped
  | started j =>
    obtain ⟨v, r, heq, -⟩ := startRun_eq j s
    rw [heq]
    exact hs
  | cleared c => exact serviceLaws_congr (s := s) rfl rfl rfl hs
  | captured => exact serviceLaws_congr (s := s) rfl rfl rfl hs
  | aperture => exact serviceLaws_congr (s := s) rfl rfl rfl hs
  | stream => exact serviceLaws_congr (s := s) rfl rfl rfl hs
  | marked => exact serviceLaws_congr (s := s) rfl rfl rfl hs
  | jobs => exact serviceLaws_congr (s := s) rfl rfl rfl hs
  | moved => exact serviceLaws_congr (s := s) rfl rfl rfl hs
  | left j x =>
    change ServiceLaws { s with jobs := s.jobs.set j x, run := none }
    exact serviceLaws_congr (s := s) rfl rfl rfl hs

theorem serviceLaws_outer (s t : State) (h : Outer s t) (hs : ServiceLaws s) : ServiceLaws t := by
  cases h with
  | queued => exact serviceLaws_congr (s := s) rfl rfl rfl hs
  | released => exact serviceLaws_congr (s := s) rfl rfl rfl hs
  | powered => exact serviceLaws_powerOn s

/-! ### The engine (R144) -/

/-- The law speaks of the job slots and the run alone. -/
theorem oneRunning_congr {t : State} (hj : t.jobs = s.jobs) (hr : t.run = s.run) (h : OneRunning s) :
    OneRunning t := by
  simpa only [OneRunning, hj, hr] using h

theorem oneRunning_beside : KeptBeside OneRunning where
  aside h := oneRunning_congr h.jobs h.run
  cause c s := oneRunning_congr (by simp) (by simp)
  captured _ _ _ h := h
  services _ _ _ h := h
  users _ _ _ _ h := h
  tracker _ _ h := h

theorem oneRunning_startRun (j : JobNo) (h : engineFree s = true) : OneRunning (startRun j s) := by
  obtain ⟨v, r, heq, hv, hr⟩ := startRun_eq j s
  have hfree : ∀ k : JobNo, s.jobs[k].state ≠ .running := by simpa [engineFree] using h
  rw [heq]
  intro k
  by_cases hk : j = k
  · subst hk; simp [hv, hr]
  · have hne : s.jobs[k].state ≠ .running := hfree k
    simp only [Fin.getElem_fin] at hne
    simp [Vector.getElem_set_ne, Fin.val_ne_iff.mpr hk, hne, hr, hk]

theorem oneRunning_left {j : JobNo} {x : JobSlot} (hx : x.state ≠ .running)
    (h : s.jobs[j].state = .running ∨ ∃ r, s.run = some r ∧ r.slot = j) (hs : OneRunning s) :
    OneRunning { s with jobs := s.jobs.set j x, run := none } := by
  obtain ⟨r, hr, hrj⟩ : ∃ r, s.run = some r ∧ r.slot = j := h.elim (hs j).mp id
  intro k
  by_cases hk : j = k
  · subst hk; simp [hx]
  · have hne : s.jobs[k].state ≠ .running := fun hrun => by
      obtain ⟨r', hr', hrk⟩ := (hs k).mp hrun
      exact hk (by rw [← hrj, ← hrk, Option.some.inj (hr.symm.trans hr')])
    simp only [Fin.getElem_fin] at hne
    simp [Vector.getElem_set_ne, Fin.val_ne_iff.mpr hk, hne]

theorem oneRunning_powerOn (s : State) : OneRunning (powerOn s) := by
  intro j
  have hjob : (powerOn s).jobs[j] = JobSlot.reset := Vector.getElem_replicate j.isLt
  rw [hjob]
  exact ⟨fun h => JobState.noConfusion h, fun ⟨r, hr, _⟩ => absurd hr (by simp [powerOn, State.reset])⟩

theorem oneRunning_kept (s t : State) (h : Move strict s t) (hs : OneRunning s) : OneRunning t := by
  cases h with
  | aside h => exact oneRunning_beside.aside h hs
  | path h => exact oneRunning_congr h.jobs h.run hs
  | cause c => exact oneRunning_beside.cause c s hs
  | enabled g set =>
    obtain ⟨_, _, heq⟩ := setEnables_eq g set s
    rw [heq]
    exact oneRunning_congr (s := s) rfl rfl hs
  | acknowledged g => exact oneRunning_congr (by simp [acknowledge]) (by simp [acknowledge]) hs
  | closed e => exact oneRunning_beside.closeEntry e hs
  | abandoned reason test => exact oneRunning_beside.abandonWhere reason test hs
  | opened e => exact oneRunning_beside.openEntry e hs
  | jobs v _ hv => exact fun j => (hv j).trans (hs j)
  | started j _ hfree => exact oneRunning_startRun j hfree
  | moved r r' _ hr hslot =>
    intro j
    rw [hs j, hr]
    simp [hslot]
  | left j x _ h hx => exact oneRunning_left hx h hs
  | cleared c => exact oneRunning_congr (s := s) rfl rfl hs
  | captured => exact oneRunning_congr (s := s) rfl rfl hs
  | aperture => exact oneRunning_congr (s := s) rfl rfl hs
  | stream => exact oneRunning_congr (s := s) rfl rfl hs
  | time => exact oneRunning_congr (s := s) rfl rfl hs
  | services => exact oneRunning_congr (s := s) rfl rfl hs
  | marked => exact oneRunning_congr (s := s) rfl rfl hs
  | purged => exact oneRunning_congr (s := s) rfl rfl hs
  | emptied => exact oneRunning_congr (s := s) rfl rfl hs

theorem oneRunning_outer (s t : State) (h : Outer s t) (hs : OneRunning s) : OneRunning t := by
  cases h with
  | queued => exact oneRunning_congr (s := s) rfl rfl hs
  | released => exact oneRunning_congr (s := s) rfl rfl hs
  | powered => exact oneRunning_powerOn s

end Sys2Proof.Machine
end

section
/-! SUPPORT. Every move keeps the tables apart and the users counted (R18, R29, R79, R85, R88). -/

namespace Sys2Proof.Machine

variable {s : State} {strict : Bool}

/-! ### The tables (R18, R19, R29, R79, R81) -/

/-- The laws of the aperture table and of the stream map. -/
def TablesApart (s : State) : Prop := AperturesApart s ∧ StreamsApart s

theorem valid_of_uncounted {a b : Aperture} (h : uncounted a = uncounted b) :
    a.valid = b.valid ∧ a.base = b.base ∧ a.limit = b.limit := by
  obtain ⟨hvalid, hbase, hlimit, -⟩ := Aperture.mk.inj h
  exact ⟨hvalid, hbase, hlimit⟩

/-- The law speaks of no saturation count. -/
theorem tablesApart_of {t : State} (ha : ∀ i : ApertureNo, uncounted t.apertures[i] = uncounted s.apertures[i])
    (hs : t.streams = s.streams) (h : TablesApart s) : TablesApart t := by
  obtain ⟨⟨hranges, hmeet⟩, hstreams⟩ := h
  refine ⟨⟨fun i hi => ?_, fun i j hij hi hj => ?_⟩, by simpa only [StreamsApart, hs] using hstreams⟩
  · obtain ⟨hvalid, hbase, hlimit⟩ := valid_of_uncounted (ha i)
    rw [hbase, hlimit]
    exact hranges i (hvalid ▸ hi)
  · obtain ⟨hvi, hbi, hli⟩ := valid_of_uncounted (ha i)
    obtain ⟨hvj, hbj, hlj⟩ := valid_of_uncounted (ha j)
    have hapart := hmeet i j hij (hvi ▸ hi) (hvj ▸ hj)
    simpa only [rangesMeet, hbi, hli, hbj, hlj] using hapart

theorem tablesApart_congr {t : State} (ha : t.apertures = s.apertures) (hs : t.streams = s.streams)
    (h : TablesApart s) : TablesApart t := tablesApart_of (fun _ => by rw [ha]) hs h

theorem tablesApart_beside : KeptBeside TablesApart where
  aside h := tablesApart_of h.apertures h.streams
  cause c s := tablesApart_congr (by simp) (by simp)
  captured _ _ _ h := h
  services _ _ _ h := h
  users _ _ _ _ h := h
  tracker _ _ h := h

theorem rangesMeet_comm (a b : Aperture) : rangesMeet a b = rangesMeet b a := by
  simp only [rangesMeet, max_comm a.base, min_comm a.limit]

theorem streamsMeet_comm (a b : StreamEntry) : streamsMeet a b = streamsMeet b a := by
  simp only [streamsMeet, Bool.beq_comm (a := a.input), Bool.beq_comm (a := effectiveOutput a)]

/-- A table entry without a conflict meets no other valid one (R29). -/
theorem rangesMeet_of_no_conflict {i j : ApertureNo} {a : Aperture} (h : apertureConflict s i a = false)
    (ha : a.valid = true) (hij : j ≠ i) (hj : s.apertures[j].valid = true) :
    rangesMeet a s.apertures[j] = false := by
  simp only [apertureConflict, ha, Bool.true_and, Bool.or_eq_false_iff, List.any_eq_false] at h
  have hclear := h.2 j (List.mem_finRange j)
  rw [hj] at hclear
  simpa [hij] using hclear

theorem streamsMeet_of_no_duplicate {i j : StreamNo} {e : StreamEntry} (h : streamDuplicate s i e = false)
    (he : e.valid = true) (hij : j ≠ i) (hj : s.streams[j].valid = true) :
    streamsMeet e s.streams[j] = false := by
  simp only [streamDuplicate, he, Bool.true_and, List.any_eq_false] at h
  have hclear := h j (List.mem_finRange j)
  rw [hj] at hclear
  simpa [hij] using hclear

theorem tablesApart_aperture {i : ApertureNo} {a : Aperture} (hc : apertureConflict s i a = false)
    (hv : a.valid = true → a.base < a.limit) (h : TablesApart s) :
    TablesApart { s with apertures := s.apertures.set i a } := by
  obtain ⟨⟨hranges, hmeet⟩, hstreams⟩ := h
  have hself : (s.apertures.set i a)[i] = a := Vector.getElem_set_self i.isLt
  have hother : ∀ k : ApertureNo, k ≠ i → (s.apertures.set i a)[k] = s.apertures[k] := fun k hk =>
    Vector.getElem_set_ne i.isLt k.isLt (Fin.val_ne_iff.mpr hk.symm)
  refine ⟨⟨fun k => ?_, fun k l hkl => ?_⟩, hstreams⟩
  · by_cases hk : k = i
    · subst hk; simpa only [hself] using hv
    · simpa only [hother k hk] using hranges k
  · by_cases hk : k = i
    · subst hk
      simp only [hself, hother l hkl.symm]
      exact fun ha hl => rangesMeet_of_no_conflict hc ha hkl.symm hl
    · by_cases hl : l = i
      · subst hl
        simp only [hself, hother k hk]
        exact fun hval ha => (rangesMeet_comm _ _).trans (rangesMeet_of_no_conflict hc ha hk hval)
      · simpa only [hother k hk, hother l hl] using hmeet k l hkl

theorem tablesApart_stream {i : StreamNo} {e : StreamEntry} (hd : streamDuplicate s i e = false)
    (h : TablesApart s) : TablesApart { s with streams := s.streams.set i e } := by
  obtain ⟨hapertures, hmeet⟩ := h
  have hself : (s.streams.set i e)[i] = e := Vector.getElem_set_self i.isLt
  have hother : ∀ k : StreamNo, k ≠ i → (s.streams.set i e)[k] = s.streams[k] := fun k hk =>
    Vector.getElem_set_ne i.isLt k.isLt (Fin.val_ne_iff.mpr hk.symm)
  refine ⟨hapertures, fun k l hkl => ?_⟩
  by_cases hk : k = i
  · subst hk
    simp only [hself, hother l hkl.symm]
    exact fun he hl => streamsMeet_of_no_duplicate hd he hkl.symm hl
  · by_cases hl : l = i
    · subst hl
      simp only [hself, hother k hk]
      exact fun hval he => (streamsMeet_comm _ _).trans (streamsMeet_of_no_duplicate hd he hk hval)
    · simpa only [hother k hk, hother l hl] using hmeet k l hkl

theorem tablesApart_powerOn (s : State) : TablesApart (powerOn s) := by
  have haperture : ∀ i : ApertureNo, (powerOn s).apertures[i] = Aperture.reset := fun i =>
    Vector.getElem_replicate i.isLt
  have hstream : ∀ i : StreamNo, (powerOn s).streams[i] = StreamEntry.reset := fun i =>
    Vector.getElem_replicate i.isLt
  refine ⟨⟨fun i h => ?_, fun i j _ h => ?_⟩, fun i j _ h => ?_⟩
  · rw [haperture] at h; exact absurd h (by decide)
  · rw [haperture] at h; exact absurd h (by decide)
  · rw [hstream] at h; exact absurd h (by decide)

theorem tablesApart_kept (s t : State) (h : Move strict s t) (hs : TablesApart s) : TablesApart t := by
  cases h with
  | aside h => exact tablesApart_beside.aside h hs
  | path h => exact tablesApart_of h.apertures h.streams hs
  | cause c => exact tablesApart_beside.cause c s hs
  | enabled g set =>
    obtain ⟨_, _, heq⟩ := setEnables_eq g set s
    rw [heq]
    exact tablesApart_congr (s := s) rfl rfl hs
  | acknowledged g => exact tablesApart_congr (by simp [acknowledge]) (by simp [acknowledge]) hs
  | aperture i a _ hc hv => exact tablesApart_aperture hc hv hs
  | stream i e _ hd => exact tablesApart_stream hd hs
  | closed e => exact tablesApart_beside.closeEntry e hs
  | abandoned reason test => exact tablesApart_beside.abandonWhere reason test hs
  | opened e => exact tablesApart_beside.openEntry e hs
  | started j =>
    obtain ⟨v, r, heq, -⟩ := startRun_eq j s
    rw [heq]
    exact hs
  | cleared c => exact tablesApart_congr (s := s) rfl rfl hs
  | captured => exact tablesApart_congr (s := s) rfl rfl hs
  | time => exact tablesApart_congr (s := s) rfl rfl hs
  | services => exact tablesApart_congr (s := s) rfl rfl hs
  | marked => exact tablesApart_congr (s := s) rfl rfl hs
  | purged => exact tablesApart_congr (s := s) rfl rfl hs
  | emptied => exact tablesApart_congr (s := s) rfl rfl hs
  | jobs => exact tablesApart_congr (s := s) rfl rfl hs
  | moved => exact tablesApart_congr (s := s) rfl rfl hs
  | left => exact tablesApart_congr (s := s) rfl rfl hs

theorem tablesApart_outer (s t : State) (h : Outer s t) (hs : TablesApart s) : TablesApart t := by
  cases h with
  | queued => exact tablesApart_congr (s := s) rfl rfl hs
  | released => exact tablesApart_congr (s := s) rfl rfl hs
  | powered => exact tablesApart_powerOn s

/-! ### The users (R85, R88) -/

/-- The entries of a list that use a key slot (R88). -/
def usersIn (l : List TrackerEntry) (i : ServiceNo) (p : Phase) : Nat :=
  (l.filter fun e => decide (e.disposition = .scramble i p)).length

/-- One key slot's users are counted, and it is ACTIVE or RETIRING while it has one (R88). -/
def SlotCounted (l : List TrackerEntry) (i : ServiceNo) (p : Phase) (k : KeySlot) : Prop :=
  k.users = usersIn l i p ∧ slotUsed k

theorem usersCounted_iff (s : State) : UsersCounted s ↔
    (s.tracker.map (·.slot)).Nodup ∧ ∀ i p, SlotCounted s.tracker i p (keySlot s.services[i] p) := Iff.rfl

theorem usersCounted_congr {t : State} (ht : t.tracker = s.tracker) (hv : t.services = s.services)
    (h : UsersCounted s) : UsersCounted t := by
  simpa only [usersCounted_iff, ht, hv] using h

theorem usersCounted_quiet : KeptQuiet UsersCounted where
  aside h := usersCounted_congr h.tracker h.services
  cause c s := usersCounted_congr (by simp) (by simp)
  captured _ _ _ h := h
  services v s hkept h := by
    obtain ⟨hslots, hcounted⟩ := (usersCounted_iff s).mp h
    refine (usersCounted_iff _).mpr ⟨hslots, fun i p => ⟨?_, (hkept i).used p (hcounted i p).2⟩⟩
    exact ((hkept i).users p).trans (hcounted i p).1

theorem keySlot_withUsers_self (v : Service) (p : Phase) (n : Nat) :
    keySlot (withUsers p n v) p = { keySlot v p with users := n } := by cases p <;> rfl

theorem keySlot_withUsers_ne (v : Service) {p q : Phase} (n : Nat) (h : q ≠ p) :
    keySlot (withUsers p n v) q = keySlot v q := by
  cases p <;> cases q <;> simp_all [withUsers, withKeySlot, keySlot]

theorem addUser_eq (i : ServiceNo) (p : Phase) (s : State) : addUser i p s =
    putService i (withUsers p ((keySlot s.services[i] p).users + 1) s.services[i]) s := rfl

theorem dropUser_eq (i : ServiceNo) (p : Phase) (s : State) : dropUser i p s =
    retire i p (putService i (withUsers p ((keySlot s.services[i] p).users - 1) s.services[i]) s) := rfl

/-- Only the key slot whose users are set has others. -/
theorem keySlot_putService_withUsers (i k : ServiceNo) (p q : Phase) (n : Nat) (s : State) :
    keySlot (putService i (withUsers p n s.services[i]) s).services[k] q
      = if k = i ∧ q = p then { keySlot s.services[i] p with users := n } else keySlot s.services[k] q := by
  have hservices : (putService i (withUsers p n s.services[i]) s).services
      = s.services.set i (withUsers p n s.services[i]) := by
    unfold putService
    dsimp only
    split
    · rw [setCause_services]
    · rfl
  simp only [hservices]
  by_cases hk : k = i
  · subst hk
    by_cases hq : q = p
    · subst hq; simpa using keySlot_withUsers_self s.services[k] q n
    · simpa [hq] using keySlot_withUsers_ne s.services[k] n hq
  · have hne : i.val ≠ k.val := Fin.val_ne_iff.mpr (Ne.symm hk)
    simp [hk, Vector.getElem_set_ne, hne]

/-- Closing the entry of a slot takes one user from its key slot alone. -/
theorem usersIn_filter {l : List TrackerEntry} {e : TrackerEntry} (hslots : (l.map (·.slot)).Nodup)
    (he : e ∈ l) (i : ServiceNo) (p : Phase) :
    usersIn l i p = usersIn (l.filter fun x => x.slot != e.slot) i p +
      if e.disposition = .scramble i p then 1 else 0 := by
  induction l with
  | nil => cases he
  | cons x l ih =>
    obtain ⟨hx, hl⟩ := List.nodup_cons.mp hslots
    obtain rfl | he := List.mem_cons.mp he
    · have hrest : (l.filter fun x => x.slot != e.slot) = l :=
        List.filter_eq_self.mpr fun y hy => by
          simpa using fun hslot : y.slot = e.slot => hx (List.mem_map.mpr ⟨y, hy, hslot⟩)
      rw [List.filter_cons_of_neg (by simp), hrest]
      by_cases hd : e.disposition = .scramble i p <;> simp [usersIn, hd]
    · have hne : x.slot ≠ e.slot := fun hslot => hx (List.mem_map.mpr ⟨e, he, hslot.symm⟩)
      rw [List.filter_cons_of_pos (by simpa using hne)]
      have hih := ih hl he
      by_cases hd : x.disposition = .scramble i p
      · simp only [usersIn, List.filter_cons_of_pos, hd, decide_true, List.length_cons] at hih ⊢
        omega
      · simpa [usersIn, List.filter_cons, hd] using hih

theorem usersIn_append (l : List TrackerEntry) (e : TrackerEntry) (i : ServiceNo) (p : Phase) :
    usersIn (l ++ [e]) i p = usersIn l i p + if e.disposition = .scramble i p then 1 else 0 := by
  by_cases hd : e.disposition = .scramble i p <;> simp [usersIn, List.filter_append, hd]

theorem usersCounted_closeEntry {e : TrackerEntry} (he : e ∈ s.tracker) (h : UsersCounted s) :
    UsersCounted (closeEntry e s) := by
  obtain ⟨hslots, hcounted⟩ := (usersCounted_iff s).mp h
  have hfilter : ((s.tracker.filter fun x => x.slot != e.slot).map (·.slot)).Nodup :=
    hslots.sublist ((List.filter_sublist).map _)
  have huse := usersIn_filter hslots he
  unfold closeEntry
  cases hd : e.disposition with
  | scramble i p =>
    unfold dropUse
    dsimp only
    rw [dropUser_eq]
    refine usersCounted_quiet.retire i p ((usersCounted_iff _).mpr ⟨?_, fun k q => ?_⟩)
    · rwa [putService_tracker]
    · rw [putService_tracker]
      rw [keySlot_putService_withUsers]
      have hkq := huse k q
      obtain ⟨husers, hused⟩ := hcounted k q
      split
      case isTrue hsame =>
        obtain ⟨rfl, rfl⟩ := hsame
        rw [if_pos hd] at hkq
        refine ⟨?_, fun hpos => hused ?_⟩
        · dsimp only; omega
        · dsimp only at hpos; omega
      case isFalse hother =>
        rw [if_neg (by rw [hd]; simpa [eq_comm] using hother)] at hkq
        exact ⟨husers.trans hkq, hused⟩
  | clear | pass | null =>
    refine (usersCounted_iff _).mpr ⟨hfilter, fun k q => ?_⟩
    have hkq := huse k q
    rw [if_neg (by rw [hd]; exact Disposition.noConfusion)] at hkq
    exact ⟨(hcounted k q).1.trans hkq, (hcounted k q).2⟩

theorem usersCounted_abandon {e : TrackerEntry} (reason : CloseReason) (he : e ∈ s.tracker)
    (h : UsersCounted s) : UsersCounted (abandon reason e s) :=
  usersCounted_closeEntry (by rwa [offer_tracker]) (usersCounted_quiet.offer _ h)

/-- Entries of slots of their own are still open at their turn. -/
theorem usersCounted_abandonAll (reason : CloseReason) (es : List TrackerEntry)
    (hslots : (es.map (·.slot)).Nodup) (hes : ∀ e ∈ es, e ∈ s.tracker) (h : UsersCounted s) :
    UsersCounted (abandonAll reason es s) := by
  induction es generalizing s with
  | nil => exact h
  | cons e es ih =>
    obtain ⟨he, hrest⟩ := List.nodup_cons.mp hslots
    refine ih hrest (fun x hx => ?_)
      (usersCounted_abandon reason (hes e List.mem_cons_self) h)
    rw [tracker_abandon, List.mem_filter]
    refine ⟨hes x (List.mem_cons_of_mem _ hx), ?_⟩
    simpa using fun hslot : x.slot = e.slot => he (List.mem_map.mpr ⟨x, hx, hslot⟩)

theorem usersCounted_supersede (slot : Addr) (h : UsersCounted s) : UsersCounted (supersede slot s) := by
  unfold supersede
  split
  case h_1 e he => exact usersCounted_closeEntry (findEntry_mem he).1 h
  case h_2 => exact h

theorem usersCounted_makeRoom (h : UsersCounted s) : UsersCounted (makeRoom s) := by
  unfold makeRoom
  split
  case isTrue => exact h
  case isFalse =>
    split
    case h_1 e rest heq => exact usersCounted_abandon _ (heq ▸ List.mem_cons_self) h
    case h_2 => exact h

theorem mem_of_mem_makeRoom {e : TrackerEntry} (h : e ∈ (makeRoom s).tracker) : e ∈ s.tracker := by
  unfold makeRoom at h
  split at h
  case isTrue => exact h
  case isFalse =>
    split at h
    case h_1 => rw [tracker_abandon] at h; exact List.mem_of_mem_filter h
    case h_2 => exact h

/-! ### A key slot that stays ACTIVE -/

/-- A key slot is ACTIVE. -/
def ActiveSlot (i : ServiceNo) (p : Phase) (s : State) : Prop := (keySlot s.services[i] p).state = .active

section
variable {i : ServiceNo} {p : Phase}

theorem activeSlot_congr {t : State} (h : t.services = s.services) (hs : ActiveSlot i p s) :
    ActiveSlot i p t := by
  simpa only [ActiveSlot, h] using hs

/-- Only a RETIRING slot becomes EMPTY (R123). -/
theorem activeSlot_retire (k : ServiceNo) (q : Phase) (h : ActiveSlot i p s) :
    ActiveSlot i p (retire k q s) := by
  unfold retire
  dsimp only
  split
  case isTrue hdue =>
    have hstate : (keySlot s.services[k] q).state = .retiring := by
      simp only [retireDue, Bool.and_eq_true, decide_eq_true_eq] at hdue
      exact hdue.1.1
    have hservices : ∀ v, (putService k v s).services = s.services.set k v := fun v => by
      unfold putService; dsimp only; split <;> simp
    unfold ActiveSlot
    simp only [hservices]
    by_cases hk : k = i
    · subst hk
      have hq : p ≠ q := fun heq => by
        subst heq; rw [ActiveSlot, hstate] at h; exact KeyState.noConfusion h
      have hkeep : keySlot (withKeySlot q (emptied (keySlot s.services[k] q)) s.services[k]) p
          = keySlot s.services[k] p := by
        cases p <;> cases q <;> simp_all [keySlot, withKeySlot]
      rw [show (s.services.set k _)[k] = _ from Vector.getElem_set_self k.isLt, hkeep]
      exact h
    · rw [show (s.services.set k _)[i] = _ from
        Vector.getElem_set_ne k.isLt i.isLt (Fin.val_ne_iff.mpr hk)]
      exact h
  case isFalse => exact h

theorem activeSlot_putUsers (k : ServiceNo) (q : Phase) (n : Nat) (h : ActiveSlot i p s) :
    ActiveSlot i p (putService k (withUsers q n s.services[k]) s) := by
  unfold ActiveSlot
  rw [keySlot_putService_withUsers]
  split
  case isTrue hsame => obtain ⟨rfl, rfl⟩ := hsame; exact h
  case isFalse => exact h

theorem activeSlot_closeEntry (e : TrackerEntry) (h : ActiveSlot i p s) :
    ActiveSlot i p (closeEntry e s) := by
  unfold closeEntry
  cases e.disposition with
  | scramble k q => exact activeSlot_retire k q (activeSlot_putUsers (s := { s with tracker := _ }) k q _ h)
  | clear => exact h
  | pass => exact h
  | null => exact h

theorem activeSlot_abandon (reason : CloseReason) (e : TrackerEntry) (h : ActiveSlot i p s) :
    ActiveSlot i p (abandon reason e s) :=
  activeSlot_closeEntry e (activeSlot_congr (s := s) (by simp) h)

theorem activeSlot_supersede (slot : Addr) (h : ActiveSlot i p s) : ActiveSlot i p (supersede slot s) := by
  unfold supersede
  split
  · exact activeSlot_closeEntry _ h
  · exact h

theorem activeSlot_makeRoom (h : ActiveSlot i p s) : ActiveSlot i p (makeRoom s) := by
  unfold makeRoom
  split
  · exact h
  · split
    · exact activeSlot_abandon _ _ h
    · exact h

end

/-! ### Opening, and the law -/

/-- An entry that takes the use of an ACTIVE key slot joins the tracker (R86). -/
theorem usersCounted_takeUse {e : TrackerEntry} (hfree : ∀ x ∈ s.tracker, x.slot ≠ e.slot)
    (hactive : ∀ i p, e.disposition = .scramble i p → ActiveSlot i p s) (h : UsersCounted s) :
    UsersCounted (takeUse e.disposition { s with tracker := s.tracker ++ [e] }) := by
  obtain ⟨hslots, hcounted⟩ := (usersCounted_iff s).mp h
  have hjoined : ((s.tracker ++ [e]).map (·.slot)).Nodup := by
    rw [List.map_append, List.nodup_append]
    refine ⟨hslots, List.nodup_singleton _, ?_⟩
    simpa using fun x hx => hfree x hx
  have huse := usersIn_append s.tracker e
  cases hd : e.disposition with
  | scramble i p =>
    refine (usersCounted_iff _).mpr ⟨?_, fun k q => ?_⟩
    · rwa [tracker_takeUse]
    · rw [tracker_takeUse]
      unfold takeUse
      dsimp only
      rw [addUser_eq, keySlot_putService_withUsers]
      have hkq := huse k q
      obtain ⟨husers, hused⟩ := hcounted k q
      split
      case isTrue hsame =>
        obtain ⟨rfl, rfl⟩ := hsame
        rw [if_pos hd] at hkq
        refine ⟨?_, fun _ => .inl (hactive k q hd)⟩
        dsimp only
        omega
      case isFalse hother =>
        rw [if_neg (by rw [hd]; simpa [eq_comm] using hother)] at hkq
        exact ⟨husers.trans hkq.symm, hused⟩
  | clear | pass | null =>
    refine (usersCounted_iff _).mpr ⟨hjoined, fun k q => ?_⟩
    have hkq := huse k q
    rw [if_neg (by rw [hd]; exact Disposition.noConfusion)] at hkq
    exact ⟨(hcounted k q).1.trans hkq.symm, (hcounted k q).2⟩

theorem usersCounted_openEntry {e : TrackerEntry}
    (hactive : ∀ i p, e.disposition = .scramble i p → ActiveSlot i p s) (h : UsersCounted s) :
    UsersCounted (openEntry e s) := by
  refine usersCounted_takeUse (fun x hx => ?_)
    (fun i p hd => activeSlot_makeRoom (activeSlot_supersede _ (hactive i p hd)))
    (usersCounted_makeRoom (usersCounted_supersede e.slot h))
  have hmem := mem_of_mem_makeRoom hx
  rw [tracker_supersede] at hmem
  simpa using List.of_mem_filter hmem

/-- A purge finds no entry that uses a key slot (R126). -/
theorem usersCounted_purged (hnone : ∀ e ∈ s.tracker, isScramble e.disposition = false)
    (h : UsersCounted s) :
    UsersCounted { s with services := Vector.ofFn fun i : Fin 24 => purgedService s.services[i] } := by
  refine (usersCounted_iff _).mpr ⟨h.1, fun i p => ?_⟩
  have hslot : keySlot (purgedService s.services[i]) p = KeySlot.reset := by
    unfold purgedService
    dsimp only
    split <;> cases p <;> rfl
  have husers : usersIn s.tracker i p = 0 := by
    refine List.length_eq_zero_iff.mpr (List.filter_eq_nil_iff.mpr fun e he hd => ?_)
    have := hnone e he
    rw [of_decide_eq_true hd] at this
    exact Bool.noConfusion this
  have hservice : (Vector.ofFn fun i : Fin 24 => purgedService s.services[i])[i]
      = purgedService s.services[i] := Vector.getElem_ofFn i.isLt
  rw [hservice, hslot]
  exact ⟨husers.symm, fun hpos => absurd hpos (by decide)⟩

theorem usersCounted_emptied (s : State) : UsersCounted { s with
    tracker := [], services := Vector.ofFn fun i : Fin 24 => withoutUsers s.services[i] } := by
  refine (usersCounted_iff _).mpr ⟨List.nodup_nil, fun i p => ?_⟩
  have husers : (keySlot (withoutUsers s.services[i]) p).users = 0 := by cases p <;> rfl
  have hservice : (Vector.ofFn fun i : Fin 24 => withoutUsers s.services[i])[i]
      = withoutUsers s.services[i] := Vector.getElem_ofFn i.isLt
  rw [hservice]
  exact ⟨husers, fun hpos => absurd hpos (by omega)⟩

theorem usersCounted_powerOn (s : State) : UsersCounted (powerOn s) := by
  refine (usersCounted_iff _).mpr ⟨List.nodup_nil, fun i p => ?_⟩
  have hservice : (powerOn s).services[i] = Service.reset := Vector.getElem_replicate i.isLt
  rw [hservice]
  cases p <;> exact ⟨rfl, fun hpos => absurd hpos (by decide)⟩

/-- Marking changes no slot and no disposition (R91). -/
theorem usersCounted_marked {x : List TrackerEntry} (hx : x.map (·.slot) = s.tracker.map (·.slot))
    (hd : x.map (·.disposition) = s.tracker.map (·.disposition)) (h : UsersCounted s) :
    UsersCounted { s with tracker := x } := by
  obtain ⟨hslots, hcounted⟩ := (usersCounted_iff s).mp h
  have hcount : ∀ (l : List TrackerEntry) i p,
      usersIn l i p = (l.map (·.disposition)).count (.scramble i p) := fun l i p => by
    rw [usersIn, List.count_eq_length_filter, List.filter_map, List.length_map]
    congr 1
  refine (usersCounted_iff _).mpr ⟨hx ▸ hslots, fun i p => ⟨?_, (hcounted i p).2⟩⟩
  rw [hcount, hd, ← hcount]
  exact (hcounted i p).1

theorem usersCounted_kept (s t : State) (h : Move strict s t) (hs : UsersCounted s) : UsersCounted t := by
  cases h with
  | aside h => exact usersCounted_quiet.aside h hs
  | path h => exact usersCounted_congr h.tracker h.services hs
  | cause c => exact usersCounted_quiet.cause c s hs
  | enabled g set =>
    obtain ⟨_, _, heq⟩ := setEnables_eq g set s
    rw [heq]
    exact usersCounted_congr (s := s) rfl rfl hs
  | acknowledged g => exact usersCounted_congr (by simp [acknowledge]) (by simp [acknowledge]) hs
  | services v _ hkept => exact usersCounted_quiet.services v s hkept hs
  | closed e _ he => exact usersCounted_closeEntry he hs
  | abandoned reason test =>
    refine usersCounted_abandonAll reason _ (hs.1.sublist (List.filter_sublist.map _))
      (fun e he => List.mem_of_mem_filter he) hs
  | opened e _ hactive => exact usersCounted_openEntry hactive hs
  | marked x _ hslots hd => exact usersCounted_marked hslots (hd hs.1) hs
  | purged _ hnone => exact usersCounted_purged hnone hs
  | emptied => exact usersCounted_emptied s
  | started j =>
    obtain ⟨v, r, heq, -⟩ := startRun_eq j s
    rw [heq]
    exact hs
  | cleared c => exact usersCounted_congr (s := s) rfl rfl hs
  | captured => exact usersCounted_congr (s := s) rfl rfl hs
  | aperture => exact usersCounted_congr (s := s) rfl rfl hs
  | stream => exact usersCounted_congr (s := s) rfl rfl hs
  | time => exact usersCounted_congr (s := s) rfl rfl hs
  | jobs => exact usersCounted_congr (s := s) rfl rfl hs
  | moved => exact usersCounted_congr (s := s) rfl rfl hs
  | left => exact usersCounted_congr (s := s) rfl rfl hs

theorem usersCounted_outer (s t : State) (h : Outer s t) (hs : UsersCounted s) : UsersCounted t := by
  cases h with
  | queued => exact usersCounted_congr (s := s) rfl rfl hs
  | released => exact usersCounted_congr (s := s) rfl rfl hs
  | powered => exact usersCounted_powerOn s

end Sys2Proof.Machine
end

section
/-! PROOF. The laws that every step keeps, each from its moves. -/

namespace Sys2Proof.Machine

theorem step_keeps_within {s t : State} (hs : WithinLimits s) (h : step s = .next t) : WithinLimits t := by
  obtain ⟨hpending, htracker, hcapture⟩ := hs
  obtain ⟨hpending', hcapture'⟩ := step_keeps listsWithin_kept listsWithin_outer ⟨hpending, hcapture⟩ h
  exact ⟨hpending', step_keeps trackerWithin_kept trackerWithin_outer htracker h, hcapture'⟩

end Sys2Proof.Machine

namespace Sys2Proof.Proofs
open Sys2Proof Sys2Proof.Machine

/-- Settles O53: every move keeps the due groups raised. -/
theorem stepKeepsDueGroupsRaised : Obligations.StepKeepsDueGroupsRaised :=
  fun _ _ hs h => step_keeps groupsRaised_kept groupsRaised_outer hs h

/-- Settles O54: every move keeps the users counted. -/
theorem stepKeepsUsersCounted : Obligations.StepKeepsUsersCounted :=
  fun _ _ hs h => step_keeps usersCounted_kept usersCounted_outer hs h

/-- Settles O55: every move keeps the laws of the services and of the hold. -/
theorem stepKeepsServiceAndHoldLaws : Obligations.StepKeepsServiceAndHoldLaws :=
  fun _ _ hs h => step_keeps serviceLaws_kept serviceLaws_outer hs h

/-- Settles O56: every move keeps one slot RUNNING exactly while the engine holds its run. -/
theorem stepKeepsOneRunning : Obligations.StepKeepsOneRunning :=
  fun _ _ hs h => step_keeps oneRunning_kept oneRunning_outer hs h

/-- Settles O57: every move keeps the tables apart. -/
theorem stepKeepsTablesApart : Obligations.StepKeepsTablesApart :=
  fun _ _ ha hs h => step_keeps tablesApart_kept tablesApart_outer ⟨ha, hs⟩ h

end Sys2Proof.Proofs
end

section
/-! SUPPORT. What a step leaves of the queue and of the reset input, and what the part does in reset
(R179, R180). -/

namespace Sys2Proof.Machine

variable {s : State} {strict : Bool}

/-! ### The queue and the reset input -/

/-- The queue of commands and the reset input stand so. -/
def Outside (q : List Instr) (b : Bool) (s : State) : Prop := s.pending = q ∧ s.inReset = b

section
variable {q : List Instr} {b : Bool}

theorem outside_congr {t : State} (hp : t.pending = s.pending) (hr : t.inReset = s.inReset)
    (h : Outside q b s) : Outside q b t := ⟨hp.trans h.1, hr.trans h.2⟩

theorem outside_beside : KeptBeside (Outside q b) where
  aside h := outside_congr h.pending h.inReset
  cause c s := outside_congr (by simp) (by simp)
  captured _ _ _ h := h
  services _ _ _ h := h
  users _ _ _ _ h := h
  tracker _ _ h := h

theorem outside_kept (s t : State) (h : Move strict s t) (hs : Outside q b s) : Outside q b t := by
  cases h with
  | aside h => exact outside_beside.aside h hs
  | path h => exact outside_congr h.pending h.inReset hs
  | cause c => exact outside_beside.cause c s hs
  | enabled g set =>
    obtain ⟨_, _, heq⟩ := setEnables_eq g set s
    rw [heq]
    exact hs
  | acknowledged g => exact outside_congr (by simp [acknowledge]) (by simp [acknowledge]) hs
  | closed e => exact outside_beside.closeEntry e hs
  | abandoned reason test => exact outside_beside.abandonWhere reason test hs
  | opened e => exact outside_beside.openEntry e hs
  | started j =>
    obtain ⟨v, r, heq, -⟩ := startRun_eq j s
    rw [heq]
    exact hs
  | _ => exact outside_congr (s := s) rfl rfl hs

end

theorem Moves.outside {s t : State} (h : Moves strict s t) :
    t.pending = s.pending ∧ t.inReset = s.inReset :=
  h.keep (P := Outside s.pending s.inReset) outside_kept ⟨rfl, rfl⟩

theorem after_pending (i : Instr) (s : State) : (after i s).pending = s.pending := by
  by_cases ha : i = .resetAssertion
  · subst ha; rfl
  by_cases hp : i = .powerUp
  · subst hp; rfl
  by_cases hr : ∃ levels, i = .resetRelease levels
  · obtain ⟨levels, rfl⟩ := hr
    unfold after exec execResetRelease
    dsimp only
    split <;> rfl
  exact (after_moves (strict := false) i s ha hp (fun levels h => hr ⟨levels, h⟩) Bool.noConfusion).outside.1

/-! ### Select periods (R174, R175, R180) -/

theorem period_of {i : Instr} {n : Nat} {reply : State → Reply} (hn : i.params.length = n)
    (he : ∀ s, exec i s = .next (requestPeriod (3 + n) reply s)) :
    ∃ reply, ∀ s, exec i s = .next (requestPeriod (3 + i.params.length) reply s) :=
  ⟨reply, fun s => hn ▸ he s⟩

/-- A management command is a request period of its frame's length (R175). -/
theorem exec_eq_requestPeriod (i : Instr) (h : i.code ≠ none) :
    ∃ reply, ∀ s, exec i s = .next (requestPeriod (3 + i.params.length) reply s) := by
  cases i with
  | writePath action limit => exact period_of (Laws.FrameCoding.writePath action limit).1 fun _ => rfl
  | readPath => exact period_of (Laws.FrameCoding.readPath).1 fun _ => rfl
  | writeAperture params => exact period_of (Laws.FrameCoding.writeAperture params).1 fun _ => rfl
  | readAperture entry clear => exact period_of (Laws.FrameCoding.readAperture entry clear).1 fun _ => rfl
  | writeMask initiator mask => exact period_of (Laws.FrameCoding.writeMask initiator mask).1 fun _ => rfl
  | readMask initiator => exact period_of (Laws.FrameCoding.readMask initiator).1 fun _ => rfl
  | writeStream params => exact period_of (Laws.FrameCoding.writeStream params).1 fun _ => rfl
  | readStream entry => exact period_of (Laws.FrameCoding.readStream entry).1 fun _ => rfl
  | writeService params => exact period_of (Laws.FrameCoding.writeService params).1 fun _ => rfl
  | readService service => exact period_of (Laws.FrameCoding.readService service).1 fun _ => rfl
  | loadKey service phase word => exact period_of (Laws.FrameCoding.loadKey service phase word).1 fun _ => rfl
  | stop service => exact period_of (Laws.FrameCoding.stop service).1 fun _ => rfl
  | start service phase => exact period_of (Laws.FrameCoding.start service phase).1 fun _ => rfl
  | flip service => exact period_of (Laws.FrameCoding.flip service).1 fun _ => rfl
  | writeTimebase params => exact period_of (Laws.FrameCoding.writeTimebase params).1 fun _ => rfl
  | readTimebase => exact period_of (Laws.FrameCoding.readTimebase).1 fun _ => rfl
  | acceptLocal => exact period_of (Laws.FrameCoding.acceptLocal).1 fun _ => rfl
  | writeJob params => exact period_of (Laws.FrameCoding.writeJob params).1 fun _ => rfl
  | readJob slot clear => exact period_of (Laws.FrameCoding.readJob slot clear).1 fun _ => rfl
  | triggerJob slot => exact period_of (Laws.FrameCoding.triggerJob slot).1 fun _ => rfl
  | readCapture => exact period_of (Laws.FrameCoding.readCapture).1 fun _ => rfl
  | readEvents => exact period_of (Laws.FrameCoding.readEvents).1 fun _ => rfl
  | clearEvents path keys jobs timebase =>
    exact period_of (Laws.FrameCoding.clearEvents path keys jobs timebase).1 fun _ => rfl
  | writeEventEnables group set => exact period_of (Laws.FrameCoding.writeEventEnables group set).1 fun _ => rfl
  | ackGroup group => exact period_of (Laws.FrameCoding.ackGroup group).1 fun _ => rfl
  | clearOverrun => exact period_of (Laws.FrameCoding.clearOverrun).1 fun _ => rfl
  | pathReset => exact period_of (Laws.FrameCoding.pathReset).1 fun _ => rfl
  | keyPurge => exact period_of (Laws.FrameCoding.keyPurge).1 fun _ => rfl
  | _ => exact absurd rfl h

theorem ignoring_iff (s : State) : ignoring s = true ↔ s.inReset = true ∨ s.selectIgnored = true := by
  simp [ignoring]

theorem requestPeriod_ignoring {n : Nat} {reply : State → Reply} (h : ignoring s = true) :
    requestPeriod n reply s = ignorePeriod n s := if_pos h

theorem inputEvent_inReset {level f : State → State} (h : s.inReset = true) :
    inputEvent level f s = level s := if_pos h

theorem whenRunning_inReset {f : State → State} (h : s.inReset = true) : whenRunning f s = s := if_pos h

/-! ### Reset (R180) -/

/-- In reset a command moves the requests presented, the input levels and the bytes last clocked out
alone, or ends the ignored period, or the reset. -/
def HeldInReset (s t : State) : Prop :=
  t.inReset = false ∨ ∃ up rp wo pu mi si, (si = s.selectIgnored ∨ si = false) ∧
    t = { s with
      upstream := up, time := { s.time with refPresent := rp, windowOpen := wo }
      purgeHeld := pu, miso := mi, selectIgnored := si }

theorem HeldInReset.refl (s : State) : HeldInReset s s := .inr ⟨_, _, _, _, _, _, .inl rfl, rfl⟩

theorem heldInReset_ignorePeriod (n : Nat) (s : State) : HeldInReset s (ignorePeriod n s) :=
  .inr ⟨_, _, _, _, _, _, .inr rfl, rfl⟩

theorem resetHolds_of_held {t : State} (h : HeldInReset s t) (hr : s.inReset = true) (hs : ResetHolds s) :
    ResetHolds t := by
  intro ht
  obtain hf | ⟨up, rp, wo, pu, mi, si, hsi, rfl⟩ := h
  · rw [hf] at ht; cases ht
  · have heq := hs hr
    have hnone : s.selectIgnored = false := congrArg State.selectIgnored heq
    have hsi' : si = s.selectIgnored := hsi.elim id fun h => h.trans hnone.symm
    subst hsi'
    exact heq

theorem resetHolds_powerOn (s : State) : ResetHolds (powerOn s) := fun _ => rfl

/-- What a command leaves in reset: a management command ends an ignored period, the inputs are followed,
and nothing else acts (R179, R180). -/
theorem after_inReset (i : Instr) (h : s.inReset = true) (ha : i ≠ .resetAssertion)
    (hp : i ≠ .powerUp) : HeldInReset s (after i s) := by
  have hign : ignoring s = true := (ignoring_iff s).mpr (.inl h)
  by_cases hc : i.code = none
  case neg =>
    obtain ⟨reply, hreply⟩ := exec_eq_requestPeriod i hc
    have heq : after i s = ignorePeriod (3 + i.params.length) s := by
      unfold after
      rw [hreply, requestPeriod_ignoring hign]
    rw [heq]
    exact heldInReset_ignorePeriod _ s
  case pos =>
    unfold after
    cases i with
    | takeRequest arrivals =>
      unfold exec execTakeRequest
      dsimp only
      rw [whenRunning_inReset (s := { s with upstream := s.upstream ++ arrivals }) h]
      exact .inr ⟨_, _, _, _, _, _, .inl rfl, rfl⟩
    | referenceLost =>
      unfold exec execReferenceLost
      dsimp only
      split
      · rw [inputEvent_inReset h]; exact .inr ⟨_, _, _, _, _, _, .inl rfl, rfl⟩
      · exact HeldInReset.refl s
    | referenceReturned =>
      unfold exec execReferenceReturned
      dsimp only
      split
      · exact HeldInReset.refl s
      · rw [inputEvent_inReset h]; exact .inr ⟨_, _, _, _, _, _, .inl rfl, rfl⟩
    | frameStart =>
      unfold exec execFrameStart
      dsimp only
      rw [inputEvent_inReset h]
      exact HeldInReset.refl s
    | windowOpening =>
      unfold exec execWindowOpening
      dsimp only
      split
      · exact HeldInReset.refl s
      · rw [inputEvent_inReset h]; exact .inr ⟨_, _, _, _, _, _, .inl rfl, rfl⟩
    | windowClosing =>
      unfold exec execWindowClosing
      dsimp only
      split
      · rw [inputEvent_inReset h]; exact .inr ⟨_, _, _, _, _, _, .inl rfl, rfl⟩
      · exact HeldInReset.refl s
    | purgeAssertion =>
      unfold exec execPurgeAssertion
      dsimp only
      split
      · exact HeldInReset.refl s
      · rw [inputEvent_inReset h]; exact .inr ⟨_, _, _, _, _, _, .inl rfl, rfl⟩
    | purgeRelease =>
      unfold exec execPurgeRelease
      dsimp only
      split
      · rw [inputEvent_inReset h]; exact .inr ⟨_, _, _, _, _, _, .inl rfl, rfl⟩
      · exact HeldInReset.refl s
    | resetAssertion => exact absurd rfl ha
    | powerUp => exact absurd rfl hp
    | resetRelease levels =>
      unfold exec execResetRelease
      dsimp only
      rw [if_pos h]
      exact .inl rfl
    | readPeriod edges =>
      unfold exec execReadPeriod
      dsimp only
      rw [if_pos hign]
      exact heldInReset_ignorePeriod _ s
    | badFrame period =>
      unfold exec execBadFrame
      dsimp only
      split
      · rw [requestPeriod_ignoring hign]; exact heldInReset_ignorePeriod _ s
      · exact HeldInReset.refl s
    | badCommand code params =>
      unfold exec execBadCommand
      dsimp only
      split
      · rw [requestPeriod_ignoring hign]; exact heldInReset_ignorePeriod _ s
      · exact HeldInReset.refl s
    | issueAccess | memoryAnswer | releaseResponse | tick | idleClose | retirement | expiry
    | referenceQualified | holdoverEnd =>
      rw [show exec _ s = .next (whenRunning _ s) from rfl, whenRunning_inReset h]
      exact HeldInReset.refl s
    | _ => cases hc

theorem resetHolds_after (i : Instr) (hs : ResetHolds s) : ResetHolds (after i s) := by
  by_cases ha : i = .resetAssertion
  · subst ha; exact resetHolds_powerOn s
  by_cases hp : i = .powerUp
  · subst hp; exact resetHolds_powerOn s
  by_cases h : s.inReset = true
  case pos => exact resetHolds_of_held (after_inReset i h ha hp) h hs
  case neg =>
    have hfalse : (after i s).inReset = false := by
      by_cases hr : ∃ levels, i = .resetRelease levels
      · obtain ⟨levels, rfl⟩ := hr
        unfold after exec execResetRelease
        dsimp only
        rw [if_neg h]
        exact Bool.not_eq_true _ ▸ h
      · rw [(after_moves (strict := false) i s ha hp (fun levels h => hr ⟨levels, h⟩) Bool.noConfusion).outside.2]
        exact Bool.not_eq_true _ ▸ h
    exact fun ht => absurd (hfalse.symm.trans ht) Bool.false_ne_true

theorem resetHolds_idle (hs : ResetHolds s) : ResetHolds (idle s) := by
  by_cases h : s.inReset = true
  · unfold idle
    rwa [whenRunning_inReset h]
  · intro ht
    rw [(idle_moves (strict := false) s).outside.2] at ht
    exact absurd ht h

end Sys2Proof.Machine

namespace Sys2Proof.Proofs
open Sys2Proof Sys2Proof.Machine

/-- Settles O58: in reset a command is an ignored period, a level or nothing, and outside reset none but
the reset input's asserts it. -/
theorem stepKeepsReset : Obligations.StepKeepsReset := by
  intro s t hs h
  rw [step_eq] at h
  injection h with h
  subst h
  split
  case h_1 c rest _ => exact resetHolds_after c fun hr => hs hr
  case h_2 => exact resetHolds_idle hs

/-- Settles O3: a command is a chain of moves, and the reset input's commands keep the queue too. -/
theorem everyCommandAnswersANextState : Obligations.EveryCommandAnswersANextState :=
  fun i s => ⟨after i s, exec_eq_after i s, after_pending i s⟩

end Sys2Proof.Proofs
end

section
/-! PROOF. The step, the reset, and the commands that are no event. -/

namespace Sys2Proof.Machine

variable {s : State} {strict : Bool}

theorem clockEdge_of_ne {clock : TickSource} (h : tickSource s.time.state ≠ clock) :
    clockEdge clock s = s := if_neg h

theorem clockEdge_of_lt {clock : TickSource} (h : tickSource s.time.state = clock)
    (hlt : s.time.division + 1 < s.time.prescale * s.time.divider) :
    clockEdge clock s = { s with time := { s.time with division := s.time.division + 1 } } := by
  rw [clockEdge, if_pos h, passEdge, if_pos hlt]

theorem clockEdge_of_le {clock : TickSource} (h : tickSource s.time.state = clock)
    (hle : s.time.prescale * s.time.divider ≤ s.time.division + 1) : clockEdge clock s = makeTick s := by
  rw [clockEdge, if_pos h, passEdge, if_neg (Nat.not_lt.mpr hle)]

theorem whenRunning_running {f : State → State} (h : s.inReset = false) : whenRunning f s = f s :=
  if_neg (by simp [h])

theorem idle_running (h : s.inReset = false) :
    idle s = clockEdge (tickSource (settled s).time.state) (settled s) := whenRunning_running h

theorem exec_tick (h : s.inReset = false) : exec .tick s = .next (makeTick (settled s)) :=
  congrArg Host.Outcome.next (whenRunning_running h)

theorem step_idle (h : s.pending = []) : step s = .next (idle s) := by
  unfold step; rw [h]

theorem mergeLaw_powerOn (s : State) : MergeLaw (powerOn s) :=
  ⟨Nat.zero_le _, List.nodup_nil, fun _ h => absurd h List.not_mem_nil,
    fun _ h => absurd h List.not_mem_nil, fun _ h => absurd h List.not_mem_nil⟩

theorem takeRequest_inReset (arrivals : List Request) (h : s.inReset = true) :
    exec (.takeRequest arrivals) s = .next { s with upstream := s.upstream ++ arrivals } :=
  congrArg Host.Outcome.next (whenRunning_inReset (s := { s with upstream := s.upstream ++ arrivals }) h)

/-- In reset an input's change moves its level alone (R180). -/
theorem inputFall_inReset {c : Bool} {level f : State → State} (h : s.inReset = true)
    (hsame : c = false → level s = s) :
    (if c then inputEvent level f s else s) = level s := by
  cases c with
  | true => exact inputEvent_inReset h
  | false => exact (hsame rfl).symm

theorem inputRise_inReset {c : Bool} {level f : State → State} (h : s.inReset = true)
    (hsame : c = true → level s = s) :
    (if c then s else inputEvent level f s) = level s := by
  cases c with
  | true => exact (hsame rfl).symm
  | false => exact inputEvent_inReset h

theorem setReference_same (s : State) : setReference s.time.refPresent s = s := rfl

theorem setWindow_same (s : State) : setWindow s.time.windowOpen s = s := rfl

theorem setPurge_same (s : State) : setPurge s.purgeHeld s = s := rfl

theorem badCommand_wf_iff (code : Byte) (ps : List Byte) :
    (Instr.badCommand code ps).wf = true ↔ code ≠ 0 ∧ ps.length ≤ 45 ∧ paramLength code = none := by
  simp [Instr.wf, and_assoc]

end Sys2Proof.Machine

namespace Sys2Proof.Proofs
open Sys2Proof Sys2Proof.Machine

/-- Settles O1. -/
theorem stepRunsTheFrontCommand : Obligations.StepRunsTheFrontCommand := by
  intro c rest s h
  unfold step
  rw [h]

/-- Settles O2: an idle step is an edge of the tick source, after what the last tick made due. -/
theorem idleStepPassesAnEdge : Obligations.IdleStepPassesAnEdge := by
  refine ⟨⟨rfl, by decide⟩, fun clock t => ⟨clockEdge_of_ne, fun hc => ⟨clockEdge_of_lt hc, ?_⟩⟩, ?_, ?_⟩
  · intro hle hreset hopen
    rw [exec_tick hreset, clockEdge_of_le hc hle, settled, if_neg (by simp [hopen])]
  · rintro s hq hreset u rfl
    rw [step_idle hq, idle_running hreset]
  · intro s hq
    refine ⟨fun hreset => ?_, ?_⟩
    · rw [step_idle hq, idle, whenRunning_inReset hreset]
    · rintro hreset u rfl
      rw [step_idle hq, idle_running hreset, exec_tick hreset]
      exact ⟨fun hlt => congrArg _ (clockEdge_of_lt rfl hlt), fun hle => congrArg _ (clockEdge_of_le rfl hle)⟩

/-- Settles O5: the state after a power-on reset is `powerOn`'s, but for the reset input, of which no law
but the last speaks. -/
theorem lawsHoldAtReset : Obligations.LawsHoldAtReset := by
  obtain ⟨hactive, hguard, hhold⟩ := serviceLaws_powerOn State.reset
  obtain ⟨hapertures, hstreams⟩ := tablesApart_powerOn State.reset
  exact ⟨⟨Nat.zero_le _, Nat.zero_le _, Nat.zero_le _⟩, mergeLaw_powerOn State.reset,
    groupsRaised_powerOn State.reset, usersCounted_powerOn State.reset, hactive, hguard, hhold,
    oneRunning_powerOn State.reset, hapertures, hstreams, fun h => Bool.noConfusion h⟩

/-- Settles O6. -/
theorem resetAndPowerUp : Obligations.ResetAndPowerUp := by
  refine ⟨fun _ _ => rfl, fun s levels => ⟨?_, fun h => congrArg Host.Outcome.next (if_pos h)⟩⟩
  rintro t rfl
  exact ⟨rfl, rfl⟩

/-- Settles O7: an ignored period is FFh on every byte, and in reset the inputs and the requests presented
are followed. -/
theorem resetHoldsEveryBlock : Obligations.ResetHoldsEveryBlock := by
  refine ⟨?_, ?_⟩
  · rintro s hign ignored rfl
    have hignoring : ignoring s = true := (ignoring_iff s).mpr hign
    refine ⟨fun i hi => ?_, fun edges => congrArg Host.Outcome.next (if_pos hignoring), fun p hp => ?_,
      fun code ps hwf => ?_⟩
    · obtain ⟨reply, hreply⟩ := exec_eq_requestPeriod i hi
      rw [hreply, requestPeriod_ignoring hignoring]
      rfl
    · exact congrArg Host.Outcome.next ((if_pos hp).trans (requestPeriod_ignoring hignoring))
    · exact congrArg Host.Outcome.next ((if_pos hwf).trans (requestPeriod_ignoring hignoring))
  · intro s h
    have hnothing : ∀ f : State → State, Host.Outcome.next (whenRunning f s) = (.next s :
        Host.Outcome State Fault Refusal) := fun f => congrArg _ (whenRunning_inReset h)
    refine ⟨fun arrivals => takeRequest_inReset arrivals h, fun _ => hnothing _, fun _ => hnothing _,
      fun _ => hnothing _, hnothing _, hnothing _, fun _ _ => hnothing _, fun _ => hnothing _,
      hnothing _, hnothing _, congrArg _ (inputEvent_inReset h), ?_, ?_, ?_, ?_, ?_, ?_⟩
    · refine congrArg Host.Outcome.next (inputFall_inReset h fun hc => ?_)
      rw [← hc, setReference_same]
    · refine congrArg Host.Outcome.next (inputRise_inReset h fun hc => ?_)
      rw [← hc, setReference_same]
    · refine congrArg Host.Outcome.next (inputRise_inReset h fun hc => ?_)
      rw [← hc, setWindow_same]
    · refine congrArg Host.Outcome.next (inputFall_inReset h fun hc => ?_)
      rw [← hc, setWindow_same]
    · refine congrArg Host.Outcome.next (inputRise_inReset h fun hc => ?_)
      rw [← hc, setPurge_same]
    · refine congrArg Host.Outcome.next (inputFall_inReset h fun hc => ?_)
      rw [← hc, setPurge_same]

/-- Settles O8. -/
theorem commandsThatAreNoEventDoNothing : Obligations.CommandsThatAreNoEventDoNothing := by
  refine ⟨badCommand_wf_iff, fun s => ⟨fun h => ?_, fun h => ?_, fun h => ?_, fun h => ?_, fun h => ?_,
    fun h => ?_, fun h levels => ?_, fun p hp => congrArg _ (if_neg hp), fun code ps h => ?_⟩⟩
  · exact congrArg Host.Outcome.next (if_neg (by simp [h]))
  · exact congrArg Host.Outcome.next (if_pos h)
  · exact congrArg Host.Outcome.next (if_pos h)
  · exact congrArg Host.Outcome.next (if_neg (by simp [h]))
  · exact congrArg Host.Outcome.next (if_pos h)
  · exact congrArg Host.Outcome.next (if_neg (by simp [h]))
  · exact congrArg Host.Outcome.next (if_neg (by simp [h]))
  · exact congrArg Host.Outcome.next (if_neg (by simp [h]))

end Sys2Proof.Proofs
end

section
/-! SUPPORT. The law of the merge table is kept: by every strict move, by the actions of its entries, and by
the taking of a request (R51 to R62). -/

namespace Sys2Proof.Machine

variable {s t : State} {q : Nat → Prop} {e x : MergeEntry} {ref : SegRef}

/-! ### Strict moves -/

theorem mergeLaw_beside : KeptBeside MergeLaw where
  aside h := mergeLaw_congr h.mergeTable h.pendingList h.taken
  cause c s := mergeLaw_congr (by simp) (by simp) (by simp)
  captured _ _ _ h := h
  services _ _ _ h := h
  users _ _ _ _ h := h
  tracker _ _ h := h

theorem mergeLaw_kept (s t : State) (h : Move true s t) (hs : MergeLaw s) : MergeLaw t := by
  cases h with
  | aside h => exact mergeLaw_beside.aside h hs
  | path h hm => exact hm rfl hs
  | cause c => exact mergeLaw_beside.cause c s hs
  | enabled g set =>
    obtain ⟨_, _, heq⟩ := setEnables_eq g set s
    rw [heq]
    exact hs
  | acknowledged g =>
    exact mergeLaw_congr (by simp [acknowledge]) (by simp [acknowledge]) (by simp [acknowledge]) hs
  | closed e => exact mergeLaw_beside.closeEntry e hs
  | abandoned reason test => exact mergeLaw_beside.abandonWhere reason test hs
  | opened e => exact mergeLaw_beside.openEntry e hs
  | started j =>
    obtain ⟨v, r, heq, -⟩ := startRun_eq j s
    rw [heq]
    exact hs
  | _ => exact mergeLaw_congr (s := s) rfl rfl rfl hs

theorem mergeLaw_of_moves (h : Moves true s t) (hs : MergeLaw s) : MergeLaw t := h.keep mergeLaw_kept hs

/-! ### The law with some requests left out -/

/-- Some entry's claim list holds a request (R59). -/
def Claimed (s : State) (id : Nat) : Prop := ∃ y ∈ s.mergeTable, id ∈ y.claims

/-- The law of the merge table, some requests left out of its last part. -/
structure MergeLawBut (q : Nat → Prop) (s : State) : Prop where
  length : s.mergeTable.length ≤ 6
  blocks : (s.mergeTable.map (·.block)).Nodup
  ids    : ∀ e ∈ s.pendingList, e.id < s.taken
  waits  : ∀ m ∈ s.mergeTable, ∀ ref ∈ m.waits, ref.id < s.taken
  claims : ∀ m ∈ s.mergeTable, ∀ ref ∈ m.waits, ref.index = 0 → unhandedPartial s ref.id →
    q ref.id ∨ Claimed s ref.id

theorem mergeLaw_iff (s : State) : MergeLaw s ↔ MergeLawBut (fun _ => False) s := by
  constructor
  · rintro ⟨hlength, hblocks, hids, hwaits, hclaims⟩
    exact ⟨hlength, hblocks, hids, hwaits, fun m hm r hr h0 hu => .inr (hclaims m hm r hr h0 hu)⟩
  · rintro ⟨hlength, hblocks, hids, hwaits, hclaims⟩
    exact ⟨hlength, hblocks, hids, hwaits,
      fun m hm r hr h0 hu => (hclaims m hm r hr h0 hu).resolve_left id⟩

/-- No request is left out when the one that was has its claim. -/
theorem MergeLawBut.mergeLaw {id : Nat} (h : MergeLawBut (· = id) s)
    (hclaim : unhandedPartial s id → Claimed s id) : MergeLaw s := by
  refine (mergeLaw_iff s).mpr ⟨h.length, h.blocks, h.ids, h.waits, fun m hm r hr h0 hu => .inr ?_⟩
  exact (h.claims m hm r hr h0 hu).elim (fun heq => heq ▸ hclaim (heq ▸ hu)) (fun hc => hc)

/-! ### Segments that are not yet handed -/

theorem unhandedPartial_congr (h : t.pendingList = s.pendingList) (id : Nat) :
    unhandedPartial t id ↔ unhandedPartial s id := by
  simp only [unhandedPartial, segmentOf, entryOf, h]

theorem unhandedPartial_of_setWork {w : SegWork} {id : Nat} (hw : w ≠ .unhanded)
    (h : t.pendingList = (setWork ref w s).pendingList) (hu : unhandedPartial t id) :
    unhandedPartial s id :=
  unhandedPartial_updateSegment (fun _ hg => hw hg.1) ((unhandedPartial_congr h id).mp hu)

theorem unhandedPartial_of_finishSegment {st : SegState} {d : List Word} {id : Nat}
    (hst : st ≠ .inProgress) (h : t.pendingList = (finishSegment ref st d s).pendingList)
    (hu : unhandedPartial t id) : unhandedPartial s id :=
  unhandedPartial_updateSegment (fun _ hg => hst hg.2) ((unhandedPartial_congr h id).mp hu)

/-- A second segment that is changed so is none that waits to be handed. -/
theorem not_unhandedPartial_updateSegment {id : Nat} {f : Segment → Segment}
    (hf : ∀ g, ¬ ((f g).work = .unhanded ∧ (f g).state = .inProgress))
    (h : t.pendingList = (updateSegment ⟨id, 1⟩ f s).pendingList) : ¬ unhandedPartial t id := by
  rw [unhandedPartial_congr h]
  rintro ⟨p, g, _, _, _, hseg, hwork, hstate, -⟩
  obtain ⟨_, g', _, -, hg⟩ := segmentOf_updateSegment _ f s _ p g hseg
  rw [if_pos rfl] at hg
  exact hf g' ⟨hg ▸ hwork, hg ▸ hstate⟩

theorem ByPath.taken (h : ByPath s t) : t.taken = s.taken := by
  obtain ⟨-, -, _, _, _, _, _, _, _, _, _, _, rfl⟩ := h; rfl

/-- The names of the pending list are as they were (R5). -/
theorem ByPath.ids {n : Nat} (h : ByPath s t) (hids : ∀ e ∈ s.pendingList, e.id < n) :
    ∀ e ∈ t.pendingList, e.id < n := by
  intro e he
  have hmem : takenAs e ∈ s.pendingList.map takenAs := h.1 ▸ List.mem_map_of_mem he
  obtain ⟨x, hx, heq⟩ := List.mem_map.mp hmem
  have hid : x.id = e.id := congrArg Prod.fst heq
  exact hid ▸ hids x hx

/-! ### An entry's new contents -/

theorem mem_of_mem_putIn {table : List MergeEntry} {m : MergeEntry} (h : m ∈ putIn x table) :
    m = x ∨ m ∈ table := by
  obtain ⟨y, hy, rfl⟩ := List.mem_map.mp h
  split
  · exact .inl rfl
  · exact .inr hy

theorem mem_putIn_of_ne {table : List MergeEntry} {m : MergeEntry} (hm : m ∈ table)
    (hne : m.block ≠ x.block) : m ∈ putIn x table :=
  List.mem_map.mpr ⟨m, hm, if_neg hne⟩

/-- One entry serves a block (R51). -/
theorem MergeLawBut.eq_of_block (h : MergeLawBut q s) {m : MergeEntry} (hm : m ∈ s.mergeTable)
    (he : e ∈ s.mergeTable) (hb : m.block = e.block) : m = e :=
  List.inj_on_of_nodup_map h.blocks hm he hb

/-- A claim stays with its entry, unless the entry gives it up. -/
theorem MergeLawBut.claimed_putIn (h : MergeLawBut q s) (he : e ∈ s.mergeTable) (hb : x.block = e.block)
    (ht : t.mergeTable = putIn x s.mergeTable) {id : Nat} (hkeep : id ∈ e.claims → id ∈ x.claims)
    (hc : Claimed s id) : Claimed t id := by
  obtain ⟨y, hy, hid⟩ := hc
  unfold Claimed
  rw [ht]
  by_cases hyb : y.block = x.block
  · rw [h.eq_of_block hy he (hyb.trans hb)] at hid
    exact ⟨x, mem_putIn he hb, hkeep hid⟩
  · exact ⟨y, mem_putIn_of_ne hy hyb, hid⟩

/-- An entry's new contents keep the law: what it adds to its wait list has been taken and is left out or
no first segment, and the claims it gives up are no longer needed. -/
theorem MergeLawBut.put (h : MergeLawBut q s) (he : e ∈ s.mergeTable) (hb : x.block = e.block)
    (ht : t.mergeTable = putIn x s.mergeTable) (hby : ByPath s t)
    (hu : ∀ id, unhandedPartial t id → unhandedPartial s id)
    (hwaits : ∀ r ∈ x.waits, r ∈ e.waits ∨
      (r.id < s.taken ∧ (r.index = 0 → unhandedPartial t r.id → q r.id)))
    (hclaims : ∀ id ∈ e.claims, id ∈ x.claims ∨ ¬ unhandedPartial t id) : MergeLawBut q t := by
  refine ⟨?_, ?_, ?_, ?_, ?_⟩
  · rw [ht, putIn_length]; exact h.length
  · rw [ht, putIn_blocks]; exact h.blocks
  · rw [hby.taken]; exact hby.ids h.ids
  · rw [ht, hby.taken]
    intro m hm r hr
    obtain rfl | hm := mem_of_mem_putIn hm
    · exact (hwaits r hr).elim (h.waits e he r) (·.1)
    · exact h.waits m hm r hr
  · rw [ht]
    intro m hm r hr h0 hun
    have hold : ∀ y ∈ s.mergeTable, r ∈ y.waits → q r.id ∨ Claimed t r.id := fun y hy hry =>
      (h.claims y hy r hry h0 (hu _ hun)).imp_right
        (h.claimed_putIn he hb ht fun hid => (hclaims _ hid).resolve_right (not_not.mpr hun))
    obtain rfl | hm := mem_of_mem_putIn hm
    · exact (hwaits r hr).elim (hold e he) (fun hnew => .inl (hnew.2 h0 hun))
    · exact hold m hm hr

/-- A new entry for a block that has none keeps the law (R51, R53, R59). -/
theorem MergeLawBut.append (h : MergeLawBut q s) (ht : t.mergeTable = s.mergeTable ++ [x])
    (hroom : s.mergeTable.length < 6) (hnone : mergeOf s x.block = none) (hw : x.waits = [])
    (hby : ByPath s t) (hu : ∀ id, unhandedPartial t id → unhandedPartial s id) : MergeLawBut q t := by
  have hfresh : ∀ m ∈ s.mergeTable, m.block ≠ x.block := by
    simpa [mergeOf] using List.find?_eq_none.mp hnone
  refine ⟨?_, ?_, ?_, ?_, ?_⟩
  · rw [ht, List.length_append]; exact hroom
  · rw [ht, List.map_append, List.nodup_append]
    refine ⟨h.blocks, List.nodup_singleton _, ?_⟩
    simpa using hfresh
  · rw [hby.taken]; exact hby.ids h.ids
  · rw [ht, hby.taken]
    intro m hm r hr
    obtain hm | hm := List.mem_append.mp hm
    · exact h.waits m hm r hr
    · rw [List.mem_singleton.mp hm, hw] at hr; cases hr
  · rw [ht]
    intro m hm r hr h0 hun
    obtain hm | hm := List.mem_append.mp hm
    · refine (h.claims m hm r hr h0 (hu _ hun)).imp_right fun ⟨y, hy, hid⟩ => ⟨y, ?_, hid⟩
      rw [ht]
      exact List.mem_append_left _ hy
    · rw [List.mem_singleton.mp hm, hw] at hr; cases hr

/-- The table as it was keeps the law (R59). -/
theorem MergeLawBut.same (h : MergeLawBut q s) (ht : t.mergeTable = s.mergeTable) (hby : ByPath s t)
    (hu : ∀ id, unhandedPartial t id → q id ∨ unhandedPartial s id) : MergeLawBut q t := by
  refine ⟨ht ▸ h.length, ht ▸ h.blocks, hby.taken ▸ hby.ids h.ids, ?_, ?_⟩
  · rw [ht, hby.taken]; exact h.waits
  · unfold Claimed
    rw [ht]
    intro m hm r hr h0 hun
    exact (hu _ hun).elim .inl (h.claims m hm r hr h0)

/-! ### An entry acts (R56, R58, R60) -/

theorem unhandedPartial_of_carryOut {id : Nat} (h : unhandedPartial (carryOut x ref s) id) :
    unhandedPartial s id := by
  obtain ⟨_, -, -, -, -, hp | ⟨data, hp⟩⟩ := carryOut_effect x ref s
  · exact (unhandedPartial_congr hp id).mp h
  · exact unhandedPartial_of_finishSegment SegState.noConfusion hp h

/-- An entry of the table carries out an item, its wait list no longer than it was (R56). -/
theorem MergeLawBut.carryOut (h : MergeLawBut q s) (he : e ∈ s.mergeTable) (hb : x.block = e.block)
    (hw : ∀ r ∈ x.waits, r ∈ e.waits) (hc : x.claims = e.claims) : MergeLawBut q (carryOut x ref s) := by
  obtain ⟨y, hyb, hyw, hyc, ht, -⟩ := carryOut_effect x ref s
  exact h.put he (hyb.trans hb) ht (carryOut_changes x ref s) (fun _ => unhandedPartial_of_carryOut)
    (fun r hr => .inl (hw r (hyw ▸ hr))) (fun id hid => .inl (by rw [hyc, hc]; exact hid))

theorem MergeLawBut.claimed_carryOut (h : MergeLawBut q s) (he : e ∈ s.mergeTable)
    (hb : x.block = e.block) (hc : x.claims = e.claims) {id : Nat} (hid : Claimed s id) :
    Claimed (Machine.carryOut x ref s) id := by
  obtain ⟨y, hyb, -, hyc, ht, -⟩ := carryOut_effect x ref s
  exact h.claimed_putIn he (hyb.trans hb) ht (fun hmem => by rw [hyc, hc]; exact hmem) hid

/-- A segment parks on an entry that may give up the claim of its request (R54, R60). -/
theorem MergeLawBut.park (h : MergeLawBut q s) (he : e ∈ s.mergeTable) (hb : x.block = e.block)
    (hid : ref.id < s.taken) (hw : x.waits = e.waits)
    (h0 : ref.index = 0 → unhandedPartial (park x ref s) ref.id → q ref.id)
    (hc : ∀ id ∈ e.claims, id ∈ x.claims ∨ ¬ unhandedPartial (park x ref s) id) :
    MergeLawBut q (park x ref s) := by
  refine h.put (x := { x with waits := x.waits ++ [ref] }) he hb rfl (park_changes x ref s)
    (fun id => unhandedPartial_of_setWork (s := s) SegWork.noConfusion rfl) (fun r hr => ?_) hc
  obtain hr | hr := List.mem_append.mp hr
  · exact .inl (hw ▸ hr)
  · rw [List.mem_singleton.mp hr]; exact .inr ⟨hid, h0⟩

/-- A sample segment is handed: one that makes an entry finds room for it (R43, R53). -/
theorem MergeLawBut.handSample (h : MergeLawBut q s) (hid : ref.id < s.taken)
    (h0 : ref.index = 0 → unhandedPartial (handSample ref s) ref.id → q ref.id)
    (hroom : ∀ p g b first ws, segmentOf s ref = some (p, g) → g.place = .sample b first false →
      g.op = .write ws → mergeOf s b = none → s.mergeTable.length < 6) :
    MergeLawBut q (handSample ref s) := by
  have hby := handSample_changes ref s
  obtain ⟨ht, hp⟩ | ⟨e, he, ht, hp⟩ | ⟨ht, io, hp⟩ |
      ⟨p, g, b, c, first, ws, hseg, hc, hplace, hop, hnone, ht, hp⟩ :=
    handSample_effect ref s
  · exact h.same ht hby fun id hun => .inr ((unhandedPartial_congr hp id).mp hun)
  · refine h.put (x := { e with waits := e.waits ++ [ref] }) he rfl ht hby
      (fun id => unhandedPartial_of_setWork SegWork.noConfusion hp) (fun r hr => ?_) (fun _ => .inl)
    obtain hr | hr := List.mem_append.mp hr
    · exact .inl hr
    · rw [List.mem_singleton.mp hr]; exact .inr ⟨hid, h0⟩
  · exact h.same ht hby fun id hun => .inr (unhandedPartial_of_setWork SegWork.noConfusion hp hun)
  · exact h.append ht (hroom p g b first ws hseg hplace hop hnone) hnone rfl hby
      fun id => unhandedPartial_of_setWork SegWork.noConfusion hp

theorem claimOf_eq_none {id : Nat} (h : claimOf s id = none) : ¬ Claimed s id := by
  rintro ⟨y, hy, hid⟩
  simpa [hid] using List.find?_eq_none.mp h y hy

/-- The second segment of a request that has its claim, if it may need an entry, makes none (R60). -/
theorem MergeLawBut.handSecond (h : MergeLawBut q s) (hid : ref.id < s.taken)
    (hclaim : ref.index = 0 → unhandedPartial s ref.id → Claimed s ref.id) :
    MergeLawBut q (handSecond ref s) := by
  unfold Machine.handSecond
  dsimp only
  split
  case h_1 p g h0 hseg =>
    split
    case isTrue hun =>
      split
      case h_1 e he =>
        obtain ⟨hmem, -⟩ := mem_of_claimOf he
        refine h.park hmem rfl hid rfl (fun hindex => absurd hindex (by simp)) fun id hidc => ?_
        by_cases hsame : id = ref.id
        · subst hsame
          exact .inr (not_unhandedPartial_updateSegment (fun _ hg => SegWork.noConfusion hg.1) rfl)
        · exact .inl ((List.mem_erase_of_ne hsame).mpr hidc)
      case h_2 hnone =>
        refine h.handSample hid (fun hindex => absurd hindex (by simp))
          fun p' g' b first ws hseg' hplace hop _ => ?_
        obtain ⟨rfl, rfl⟩ : p = p' ∧ g = g' := by simpa using hseg.symm.trans hseg'
        exact absurd (hclaim h0 ⟨p, g, b, first, ws, hseg, hun.1, hun.2, hplace, hop⟩) (claimOf_eq_none hnone)
    case isFalse => exact h
  case h_2 => exact h

/-- An entry without waits and claims is freed (R58). -/
theorem mergeLaw_freeMerge (h : MergeLaw s) (he : e ∈ s.mergeTable) (hc : e.claims = []) :
    MergeLaw (freeMerge e.block s) := by
  rw [mergeLaw_iff] at h ⊢
  refine ⟨(List.length_filter_le _ _).trans h.length, h.blocks.sublist (List.filter_sublist.map _), h.ids,
    fun m hm => h.waits m (List.mem_of_mem_filter hm), fun m hm r hr h0 hun => ?_⟩
  refine (h.claims m (List.mem_of_mem_filter hm) r hr h0 hun).imp_right fun ⟨y, hy, hid⟩ => ⟨y, ?_, hid⟩
  refine List.mem_filter.mpr ⟨hy, ?_⟩
  simpa using fun hb : y.block = e.block => by
    rw [h.eq_of_block hy he hb, hc] at hid
    cases hid

theorem MergeLawBut.fetchMerge (h : MergeLawBut q s) (he : e ∈ s.mergeTable) (id : Nat) :
    MergeLawBut q (fetchMerge e id s) := by
  obtain ⟨y, hyb, hyw, hyc, -, ht, hp⟩ := fetchMerge_effect e id s
  exact h.put he hyb ht (fetchMerge_changes e id s) (fun id => (unhandedPartial_congr hp id).mp)
    (fun r hr => .inl (hyw ▸ hr)) (fun id hid => .inl (hyc ▸ hid))

theorem mergeLaw_mergeTurn (h : MergeLaw s) (he : e ∈ s.mergeTable) : MergeLaw (mergeTurn e s) := by
  have hlaw := (mergeLaw_iff s).mp h
  unfold mergeTurn
  split
  · rename_i r rest hw
    have hin : r ∈ e.waits := hw ▸ List.mem_cons_self
    have hcarried : MergeLawBut (fun _ => False)
        (carryOut { e with waits := rest, item := some r } r s) :=
      hlaw.carryOut he rfl (fun x hx => hw ▸ List.mem_cons_of_mem _ hx) rfl
    refine (mergeLaw_iff _).mpr (hcarried.handSecond ?_ fun h0 hun => ?_)
    · rw [(carryOut_changes _ _ s).taken]
      exact hlaw.waits e he r hin
    · refine hlaw.claimed_carryOut (x := { e with waits := rest, item := some r }) he rfl rfl ?_
      exact (hlaw.claims e he r hin h0 (unhandedPartial_of_carryOut hun)).resolve_left id
  · exact mergeLaw_freeMerge h he (by assumption)
  · exact (mergeLaw_iff _).mpr (hlaw.fetchMerge he _)

theorem mergeLaw_mergeSettle (n : Nat) (h : MergeLaw s) : MergeLaw (mergeSettle n s) := by
  induction n generalizing s with
  | zero => exact h
  | succ n ih =>
    unfold mergeSettle
    split
    case h_1 => exact h
    case h_2 e he => exact ih (mergeLaw_mergeTurn h (List.mem_of_find?_eq_some he))

theorem mergeLaw_mergeRun (h : MergeLaw s) : MergeLaw (mergeRun s) := mergeLaw_mergeSettle _ h

/-! ### Answers (R55, R57, R62, R63) -/

theorem MergeLawBut.putMerge (h : MergeLawBut q s) (he : e ∈ s.mergeTable) (hb : x.block = e.block)
    (hw : x.waits = e.waits) (hc : x.claims = e.claims) : MergeLawBut q (putMerge x s) :=
  h.put he hb rfl (putMerge_changes x s) (fun _ => id) (fun _ hr => .inl (hw ▸ hr))
    (fun _ hid => .inl (hc ▸ hid))

/-- An entry finishes a segment, and gives up no claim but that of the segment's request (R57, R62). -/
theorem MergeLawBut.finish (h : MergeLawBut q s) (he : e ∈ s.mergeTable) (hb : x.block = e.block)
    {st : SegState} {d : List Word} (hst : st ≠ .inProgress) (hw : ∀ r ∈ x.waits, r ∈ e.waits)
    (hc : ∀ id ∈ e.claims, id ∈ x.claims ∨ ref = ⟨id, 1⟩) :
    MergeLawBut q (finishSegment ref st d (Machine.putMerge x s)) := by
  refine h.put he hb rfl ((putMerge_changes x s).trans (finishSegment_changes _ _ _ _))
    (fun id => unhandedPartial_of_finishSegment (s := s) hst rfl) (fun r hr => .inl (hw r hr)) fun id hid => ?_
  refine (hc id hid).imp_right fun href => ?_
  subst href
  exact not_unhandedPartial_updateSegment (fun _ hg => hst hg.2) rfl

/-- A fetch that fails finishes the segment whose claim it gives up (R62). -/
theorem MergeLawBut.fetchFailed (h : MergeLawBut q s) (he : e ∈ s.mergeTable) (hb : x.block = e.block)
    (hw : x.waits = e.waits) (hc : x.claims = e.claims) : MergeLawBut q (fetchFailed x s) := by
  have hkept : ∀ r ∈ x.waits, r ∈ e.waits := fun r hr => hw ▸ hr
  unfold Machine.fetchFailed
  split
  · refine h.finish he ?_ ?_ ?_ ?_
    · exact hb
    · exact SegState.noConfusion
    · exact hkept
    · exact fun id hid => .inl (hc ▸ hid)
  · rename_i hclaims
    refine h.finish he ?_ ?_ ?_ fun k hk => ?_
    · exact hb
    · exact SegState.noConfusion
    · exact hkept
    · rw [← hc, hclaims] at hk
      obtain rfl | hk := List.mem_cons.mp hk
      · exact .inr rfl
      · exact .inl hk
  · split
    · refine h.finish he ?_ ?_ (fun r hr => hkept r ?_) ?_
      · exact hb
      · exact SegState.noConfusion
      · exact List.mem_of_mem_erase hr
      · exact fun id hid => .inl (hc ▸ hid)
    · exact h.putMerge he hb hw hc

theorem MergeLawBut.completeMerge (h : MergeLawBut q s) (he : e ∈ s.mergeTable) (hb : x.block = e.block)
    (hw : x.waits = e.waits) (hc : x.claims = e.claims) : MergeLawBut q (completeMerge x s) := by
  have hkept : ∀ r ∈ x.waits, r ∈ e.waits := fun r hr => hw ▸ hr
  unfold Machine.completeMerge
  split
  · exact h.fetchFailed he hb hw hc
  · exact h.carryOut he hb hkept hc
  · exact h.putMerge he hb hw hc
  · refine h.finish he ?_ ?_ ?_ ?_
    · exact hb
    · split <;> exact SegState.noConfusion
    · exact hkept
    · exact fun id hid => .inl (hc ▸ hid)
  · exact h.putMerge he hb hw hc
  · exact h

theorem mergeLaw_answerMerge (half : Half) (r : Request) (a : Answer) (he : e ∈ s.mergeTable)
    (h : MergeLaw s) : MergeLaw (answerMerge e half r a s) := by
  have hacts : ∀ t, ByReport s t → ∀ io, MergeLaw
      (if io.left = 0 then mergeRun (completeMerge { e with io := io } t)
        else putMerge { e with io := io } t) := by
    intro t hreport io
    obtain ⟨ht, hp⟩ := hreport.tableKept
    have hlaw := (mergeLaw_iff t).mp (mergeLaw_congr ht hp hreport.path.taken h)
    have hmem : e ∈ t.mergeTable := ht ▸ he
    split
    · exact mergeLaw_mergeRun
        ((mergeLaw_iff _).mpr (hlaw.completeMerge (x := { e with io := io }) hmem rfl rfl rfl))
    · exact (mergeLaw_iff _).mpr (hlaw.putMerge (x := { e with io := io }) hmem rfl rfl rfl)
  unfold answerMerge
  refine hacts _ ?_ _
  split
  · exact entryFault_changes _ r s
  · exact ByReport.refl s

theorem mergeLaw_handleAnswer (x : Access) (a : Answer) (h : MergeLaw s) :
    MergeLaw (handleAnswer x a s) := by
  unfold handleAnswer
  split
  · exact mergeLaw_of_moves (answerSegment_moves _ _ _ _ s) h
  · split
    · exact h
    · exact mergeLaw_of_moves (answerHeader_moves _ _ _ _ _ s) h
  · split
    case h_1 => exact h
    case h_2 e he => exact mergeLaw_answerMerge _ _ _ (mem_of_mergeOf he).1 h
  · exact h

theorem mergeLaw_matchAnswer (a : Answer) (h : MergeLaw s) : MergeLaw (matchAnswer a s) := by
  unfold matchAnswer
  split
  · exact h
  · exact mergeLaw_handleAnswer _ _ (mergeLaw_beside.aside (setOutstanding_aside _ s) h)

end Sys2Proof.Machine
end

section
/-! SUPPORT. The taking of a request keeps the law of the merge table (R4, R51, R59). -/

namespace Sys2Proof.Machine

variable {s t : State} {ref : SegRef} {p : PendingEntry}

/-! ### The request that is taken -/

/-- What `handSegments` finds of the request it is given: its entry is the one of its name, of which no
wait list knows, and its segments are as they were cut (R5, R8). -/
structure Taken (p : PendingEntry) (s : State) : Prop where
  law      : MergeLaw s
  found    : entryOf s p.id = some p
  fresh    : ∀ m ∈ s.mergeTable, ∀ ref ∈ m.waits, ref.id ≠ p.id
  plain    : ∀ g ∈ p.segments, g.work = .plain
  room     : s.mergeTable.length + (p.segments.filter (needsEntry s)).length ≤ 6

theorem Taken.name_lt (h : Taken p s) : p.id < s.taken :=
  h.law.2.2.1 p (List.mem_of_find?_eq_some h.found)

theorem Taken.segmentOf (h : Taken p s) (k : Nat) {p' : PendingEntry} {g : Segment}
    (hseg : segmentOf s ⟨p.id, k⟩ = some (p', g)) : p' = p ∧ p.segments[k]? = some g := by
  unfold Machine.segmentOf at hseg
  dsimp only at hseg
  rw [h.found] at hseg
  dsimp only at hseg
  split at hseg
  case h_1 => cases hseg
  case h_2 hg => cases hseg; exact ⟨rfl, hg⟩

/-- Cut segments wait for nothing yet (R8). -/
theorem work_of_mem_cutSegments {a : Option ApertureCopy} {r : Request} {g : Segment}
    (h : g ∈ cutSegments a r) : g.work = .plain := by
  unfold cutSegments at h
  split at h
  · obtain ⟨_, -, rfl⟩ := List.mem_map.mp h; rfl
  · obtain ⟨_, -, rfl⟩ := List.mem_map.mp h; rfl
  · rw [List.mem_singleton.mp h]; rfl
  · rw [List.mem_singleton.mp h]; rfl

theorem work_of_mem_segmentsFor {v : Verdict} {r : Request} {g : Segment} (h : g ∈ segmentsFor v r) :
    g.work = .plain := by
  unfold segmentsFor at h
  split at h
  · exact work_of_mem_cutSegments h
  · cases h
  · cases h

/-- A partial write segment whose block has no entry needs one (R4). -/
theorem needsEntry_of {g : Segment} {b : Block} {first : Nat} {ws : List WriteWord}
    (hplace : g.place = .sample b first false) (hop : g.op = .write ws) (hnone : mergeOf s b = none) :
    needsEntry s g = true := by
  simp [needsEntry, hplace, hop, hnone]

theorem not_unhandedPartial_of_plain (h : Taken p s) : ¬ unhandedPartial s p.id := by
  rintro ⟨_, g, _, _, _, hseg, hwork, -⟩
  obtain ⟨-, hg⟩ := h.segmentOf 1 hseg
  rw [h.plain g (List.mem_of_getElem? hg)] at hwork
  cases hwork

/-- No entry was made for the block of another's. -/
theorem mergeOf_eq_none_of_blocks {b : Block}
    (hsub : ∀ m ∈ s.mergeTable, ∃ m' ∈ t.mergeTable, m'.block = m.block) (h : mergeOf t b = none) :
    mergeOf s b = none := by
  refine List.find?_eq_none.mpr fun m hm hb => ?_
  obtain ⟨m', hm', hb'⟩ := hsub m hm
  exact List.find?_eq_none.mp h m' hm' (by simpa [hb'] using hb)

/-! ### What the handing of a sample segment leaves -/

theorem unhandedPartial_of_handSample {id : Nat} (h : unhandedPartial (handSample ref s) id) :
    unhandedPartial s id := by
  obtain ⟨-, hp⟩ | ⟨_, -, -, hp⟩ | ⟨-, _, hp⟩ | ⟨_, _, _, _, _, _, -, -, -, -, -, -, hp⟩ :=
    handSample_effect ref s
  · exact (unhandedPartial_congr hp id).mp h
  · exact unhandedPartial_of_setWork SegWork.noConfusion hp h
  · exact unhandedPartial_of_setWork SegWork.noConfusion hp h
  · exact unhandedPartial_of_setWork SegWork.noConfusion hp h

theorem segmentOf_congr (h : t.pendingList = s.pendingList) (r : SegRef) :
    segmentOf t r = segmentOf s r := by
  simp only [segmentOf, entryOf, h]

/-- A segment keeps its place and its operation whatever it waits for (R8). -/
theorem segmentOf_setWork {w : SegWork} {r : SegRef} {p : PendingEntry} {g : Segment}
    (ht : t.pendingList = (setWork ref w s).pendingList) (h : segmentOf t r = some (p, g)) :
    ∃ p' g', segmentOf s r = some (p', g') ∧ g'.place = g.place ∧ g'.op = g.op := by
  rw [segmentOf_congr ht] at h
  obtain ⟨p', g', hseg, -, hg⟩ := segmentOf_updateSegment ref _ s r p g h
  refine ⟨p', g', hseg, ?_⟩
  split at hg <;> subst hg <;> exact ⟨rfl, rfl⟩

theorem segmentOf_handSample {r : SegRef} {p : PendingEntry} {g : Segment}
    (h : segmentOf (handSample ref s) r = some (p, g)) :
    ∃ p' g', segmentOf s r = some (p', g') ∧ g'.place = g.place ∧ g'.op = g.op := by
  obtain ⟨-, hp⟩ | ⟨_, -, -, hp⟩ | ⟨-, _, hp⟩ | ⟨_, _, _, _, _, _, -, -, -, -, -, -, hp⟩ :=
    handSample_effect ref s
  · exact ⟨p, g, segmentOf_congr hp r ▸ h, rfl, rfl⟩
  · exact segmentOf_setWork hp h
  · exact segmentOf_setWork hp h
  · exact segmentOf_setWork hp h

/-- The table grows by one entry when the segment needs one, and else stands (R43, R53). -/
theorem handSample_grows (ref : SegRef) (s : State) :
    (∀ m ∈ s.mergeTable, ∃ m' ∈ (handSample ref s).mergeTable, m'.block = m.block) ∧
    ((handSample ref s).mergeTable.length = s.mergeTable.length ∨
      ((handSample ref s).mergeTable.length = s.mergeTable.length + 1 ∧
        ∃ p g, segmentOf s ref = some (p, g) ∧ needsEntry s g = true)) := by
  obtain ⟨ht, -⟩ | ⟨e, he, ht, -⟩ | ⟨ht, _, -⟩ | ⟨p, g, b, c, first, ws, hseg, -, hplace, hop, hnone, ht, -⟩ :=
    handSample_effect ref s
  · exact ⟨fun m hm => ⟨m, ht ▸ hm, rfl⟩, .inl (by rw [ht])⟩
  · refine ⟨fun m hm => ?_, .inl (by rw [ht, putIn_length])⟩
    have hblock : m.block ∈ (handSample ref s).mergeTable.map (·.block) := by
      rw [ht, putIn_blocks]
      exact List.mem_map_of_mem hm
    obtain ⟨m', hm', heq⟩ := List.mem_map.mp hblock
    exact ⟨m', hm', heq⟩
  · exact ⟨fun m hm => ⟨m, ht ▸ hm, rfl⟩, .inl (by rw [ht])⟩
  · refine ⟨fun m hm => ⟨m, ht ▸ List.mem_append_left _ hm, rfl⟩, .inr ⟨?_, p, g, hseg, ?_⟩⟩
    · rw [ht, List.length_append, List.length_singleton]
    · exact needsEntry_of hplace hop hnone

/-! ### The sample segments of the request (R59) -/

theorem MergeLawBut.weaken {q : Nat → Prop} (h : MergeLaw s) : MergeLawBut q s := by
  obtain ⟨hlength, hblocks, hids, hwaits, hclaims⟩ := h
  exact ⟨hlength, hblocks, hids, hwaits, fun m hm r hr h0 hu => .inr (hclaims m hm r hr h0 hu)⟩

/-- The first segment of the request is handed: a needed entry has room (R4). -/
theorem Taken.handFirst (h : Taken p s) : MergeLaw (handSample ⟨p.id, 0⟩ s) := by
  rw [mergeLaw_iff]
  refine ((mergeLaw_iff s).mp h.law).handSample h.name_lt
    (fun _ hun => not_unhandedPartial_of_plain h (unhandedPartial_of_handSample hun)) ?_
  intro p' g b first ws hseg hplace hop hnone
  obtain ⟨-, hg⟩ := h.segmentOf 0 hseg
  have hmem : g ∈ p.segments.filter (needsEntry s) :=
    List.mem_filter.mpr ⟨List.mem_of_getElem? hg, needsEntry_of hplace hop hnone⟩
  have := List.length_pos_of_mem hmem
  have := h.room
  omega

/-- Both segments are handed: each needed entry has room (R4). -/
theorem Taken.handBoth {g0 g1 : Segment} (h : Taken p s) (hsegments : p.segments = [g0, g1]) :
    MergeLaw (handSample ⟨p.id, 1⟩ (handSample ⟨p.id, 0⟩ s)) := by
  have hfirst := h.handFirst
  rw [mergeLaw_iff] at hfirst ⊢
  refine hfirst.handSample ?_ (fun hindex => absurd hindex (by simp)) ?_
  · rw [(handSample_changes _ s).taken]; exact h.name_lt
  · intro p' g b first ws hseg hplace hop hnone
    obtain ⟨p'', g', hseg', hplace', hop'⟩ := segmentOf_handSample hseg
    obtain ⟨-, hg⟩ := h.segmentOf 1 hseg'
    obtain ⟨hblocks, hlength⟩ := handSample_grows ⟨p.id, 0⟩ s
    have hsecond : needsEntry s g' = true :=
      needsEntry_of (hplace'.trans hplace) (hop'.trans hop) (mergeOf_eq_none_of_blocks hblocks hnone)
    have hroom := h.room
    rw [hsegments] at hg hroom
    obtain rfl : g1 = g' := by simpa using hg
    obtain hsame | ⟨hgrown, p3, g3, hseg3, hneeds⟩ := hlength
    · by_cases hneeds : needsEntry s g0 = true <;>
        simp [hsecond, hneeds] at hroom <;> omega
    · obtain ⟨-, hg3⟩ := h.segmentOf 0 hseg3
      rw [hsegments] at hg3
      obtain rfl : g0 = g3 := by simpa using hg3
      simp [hsecond, hneeds] at hroom
      omega

/-- The second segment waits with its claim, or needs none (R59). -/
theorem mergeLaw_claimSecond {n : ApertureNo} {g : Segment} (h : MergeLawBut (· = p.id) s)
    (hg : unhandedPartial s p.id → ∃ b first ws, g.place = .sample b first false ∧ g.op = .write ws)
    (hroom : ∀ b first ws, g.place = .sample b first false → g.op = .write ws → mergeOf s b = none →
      s.mergeTable.length < 6) : MergeLaw (claimSecond p n g s) := by
  unfold claimSecond
  split
  case h_1 b first full hplace =>
    split
    case h_1 e he =>
      obtain ⟨hmem, -⟩ := mem_of_mergeOf he
      have hlaw : MergeLawBut (· = p.id) (putMerge { e with claims := e.claims ++ [p.id] } s) := by
        refine h.put (x := { e with claims := e.claims ++ [p.id] }) hmem rfl rfl (putMerge_changes _ s)
          (fun _ => id) (fun _ => .inl) fun id hid => ?_
        exact .inl (List.mem_append_left _ hid)
      exact hlaw.mergeLaw fun _ => ⟨_, mem_putIn (x := { e with claims := e.claims ++ [p.id] }) hmem rfl,
        List.mem_append_right _ List.mem_cons_self⟩
    case h_2 ws hnone hop =>
      obtain ⟨ht, hp⟩ := handBlockRead_tableKept p.request b (.merge b)
        { s with mergeTable := s.mergeTable ++ [newMerge b n none [p.id] p.id] }
      have hlaw := h.append ht (hroom b first ws hplace hop hnone) hnone rfl
        ((setMergeTable_changes _ s).trans (handBlockRead_changes _ _ _ _))
        fun id => (unhandedPartial_congr hp id).mp
      refine hlaw.mergeLaw fun _ => ⟨newMerge b n none [p.id] p.id, ?_, List.mem_cons_self⟩
      rw [ht]
      exact List.mem_append_right _ List.mem_cons_self
    case h_3 hnone hother =>
      refine h.mergeLaw fun hun => ?_
      obtain ⟨b', first', ws, hplace', hop⟩ := hg hun
      rw [hplace] at hplace'
      cases hplace'
      exact (hother ws hop rfl).elim
  case h_2 hplace =>
    refine h.mergeLaw fun hun => ?_
    obtain ⟨b', first', ws, hplace', -⟩ := hg hun
    rw [hplace] at hplace'
    cases hplace'
  case h_3 hplace =>
    refine h.mergeLaw fun hun => ?_
    obtain ⟨b', first', ws, hplace', -⟩ := hg hun
    rw [hplace] at hplace'
    cases hplace'

/-- The first segment parks on its block's entry, and the second waits with its claim (R54, R59). -/
theorem Taken.parkBoth {n : ApertureNo} {g0 g1 : Segment} {e : MergeEntry} (h : Taken p s)
    (hsegments : p.segments = [g0, g1]) (he : e ∈ s.mergeTable) :
    MergeLaw (claimSecond p n g1 (park e ⟨p.id, 0⟩ (setWork ⟨p.id, 1⟩ .unhanded s))) := by
  have hwaiting : MergeLawBut (· = p.id) (setWork ⟨p.id, 1⟩ .unhanded s) := by
    refine (MergeLawBut.weaken h.law).same rfl (setWork_changes _ _ s) fun id hun => ?_
    by_cases hid : id = p.id
    · exact .inl hid
    · obtain ⟨p', g, b, first, ws, hseg, hrest⟩ := hun
      obtain ⟨p'', g', hseg', -, hg⟩ := segmentOf_updateSegment _ _ s _ p' g hseg
      rw [if_neg (by simpa using hid)] at hg
      exact .inr ⟨p'', g', b, first, ws, hseg', hg ▸ hrest⟩
  have hparked : MergeLawBut (· = p.id) (park e ⟨p.id, 0⟩ (setWork ⟨p.id, 1⟩ .unhanded s)) :=
    hwaiting.park he rfl h.name_lt rfl (fun _ _ => rfl) (fun _ => .inl)
  refine mergeLaw_claimSecond hparked ?_ ?_
  · rintro ⟨p', g, b, first, ws, hseg, -, -, hplace, hop⟩
    obtain ⟨p1, k1, hseg1, hplace1, hop1⟩ := segmentOf_setWork (s := putMerge _ _) rfl hseg
    obtain ⟨p2, k2, hseg2, hplace2, hop2⟩ := segmentOf_setWork (s := s) rfl hseg1
    obtain ⟨-, hg⟩ := h.segmentOf 1 hseg2
    rw [hsegments] at hg
    obtain rfl : g1 = k2 := by simpa using hg
    exact ⟨b, first, ws, hplace2.trans (hplace1.trans hplace), hop2.trans (hop1.trans hop)⟩
  · intro b first ws hplace hop hnone
    have hblocks : ∀ m ∈ s.mergeTable, ∃ m' ∈ (park e ⟨p.id, 0⟩ (setWork ⟨p.id, 1⟩ .unhanded s)).mergeTable,
        m'.block = m.block := fun m hm => by
      have hblock : m.block ∈
            (putIn { e with waits := e.waits ++ [⟨p.id, 0⟩] } s.mergeTable).map (·.block) := by
        rw [putIn_blocks]
        exact List.mem_map_of_mem hm
      obtain ⟨m', hm', heq⟩ := List.mem_map.mp hblock
      exact ⟨m', hm', heq⟩
    have hneeds := needsEntry_of hplace hop (mergeOf_eq_none_of_blocks hblocks hnone)
    have hmem : g1 ∈ p.segments.filter (needsEntry s) :=
      List.mem_filter.mpr ⟨hsegments ▸ List.mem_cons_of_mem _ List.mem_cons_self, hneeds⟩
    have hpos := List.length_pos_of_mem hmem
    have hroom := h.room
    have hlength : (park e ⟨p.id, 0⟩ (setWork ⟨p.id, 1⟩ .unhanded s)).mergeTable.length
        = s.mergeTable.length := putIn_length _ _
    omega

theorem Taken.handSamples (h : Taken p s) : MergeLaw (handSamples p s) := by
  unfold Machine.handSamples
  dsimp only
  split
  case h_1 g0 g1 c hsegments _ =>
    split
    · split
      case h_1 e he => exact mergeLaw_mergeRun (h.parkBoth hsegments (mem_of_mergeOf he).1)
      case h_2 => exact mergeLaw_mergeRun (h.handBoth hsegments)
    · exact h.law
    · exact h.law
  case h_2 => exact mergeLaw_mergeRun h.handFirst

theorem Taken.handSegments (h : Taken p s) : MergeLaw (handSegments p s) := by
  unfold Machine.handSegments
  split
  · exact h.law
  · exact h.handSamples
  · exact mergeLaw_of_moves (moves_foldl _ (handPiece_moves p) _ s) h.law

/-! ### The arbiter (R6) -/

theorem recordVerdict_kept (v : Verdict) (r : Request) (s : State) :
    TableKept s (recordVerdict v r s) ∧ (recordVerdict v r s).taken = s.taken :=
  ⟨(recordVerdict_changes v r s).tableKept, (recordVerdict_changes v r s).path.taken⟩

/-- The request that joins the pending list is found by its name, and the others as before (R5). -/
theorem entryOf_joined {l : List PendingEntry} {p : PendingEntry} (hids : ∀ e ∈ l, e.id < p.id)
    (ht : t.pendingList = l ++ [p]) (id : Nat) :
    entryOf t id = if id = p.id then some p else l.find? fun e => e.id == id := by
  unfold entryOf
  rw [ht, List.find?_append]
  split
  case isTrue hid =>
    subst hid
    have hnone : l.find? (fun e => e.id == p.id) = none :=
      List.find?_eq_none.mpr fun e he => by simpa using (hids e he).ne
    simp [hnone]
  case isFalse hid =>
    have hne : p.id ≠ id := fun heq => hid heq.symm
    simp [hne]

theorem taken_takeRequest {source : Source} {r : Request} (hs : MergeLaw s)
    (hcan : canTake s source r = true) {v : Verdict} (hv : v = classify s source r)
    (hp : p = ⟨s.taken, source, r, v.disposal, v.aperture, segmentsFor v r⟩)
    (ht : t = { recordVerdict v r s with
      pendingList := (recordVerdict v r s).pendingList ++ [p], taken := (recordVerdict v r s).taken + 1
      lastSource := source }) : Taken p t := by
  obtain ⟨⟨htable, hlist⟩, htaken⟩ := recordVerdict_kept v r s
  have hname : p.id = s.taken := by rw [hp]
  have hpending : t.pendingList = s.pendingList ++ [p] := by rw [ht, hlist]
  have hmerge : t.mergeTable = s.mergeTable := by rw [ht]; exact htable
  have hcount : t.taken = s.taken + 1 := by rw [ht]; exact congrArg (· + 1) htaken
  obtain ⟨hlength, hblocks, hids, hwaits, hclaims⟩ := hs
  have hfind := entryOf_joined (hname ▸ hids) hpending
  refine ⟨⟨?_, ?_, ?_, ?_, ?_⟩, ?_, ?_, ?_, ?_⟩
  · rwa [hmerge]
  · rwa [hmerge]
  · rw [hpending, hcount]
    intro e he
    obtain he | he := List.mem_append.mp he
    · exact (hids e he).trans (Nat.lt_succ_self _)
    · rw [List.mem_singleton.mp he, hname]; exact Nat.lt_succ_self _
  · rw [hmerge, hcount]
    exact fun m hm ref href => (hwaits m hm ref href).trans (Nat.lt_succ_self _)
  · rw [hmerge]
    intro m hm ref href h0 hun
    refine hclaims m hm ref href h0 ?_
    obtain ⟨p', g, b, first, ws, hseg, hrest⟩ := hun
    refine ⟨p', g, b, first, ws, ?_, hrest⟩
    unfold segmentOf at hseg ⊢
    dsimp only at hseg ⊢
    rwa [hfind, if_neg (by rw [hname]; exact (hwaits m hm ref href).ne)] at hseg
  · rw [hfind, if_pos rfl]
  · rw [hmerge, hname]
    exact fun m hm ref href => (hwaits m hm ref href).ne
  · intro g hg
    rw [hp] at hg
    exact work_of_mem_segmentsFor hg
  · have hneeds : needsEntry t = needsEntry s := by
      funext g; simp only [needsEntry, mergeOf, hmerge]
    simp only [canTake, Bool.and_eq_true, decide_eq_true_eq] at hcan
    rw [hmerge, hneeds, hp, hv]
    exact hcan.2

theorem mergeLaw_takeRequest {source : Source} {r : Request} (hs : MergeLaw s)
    (hcan : canTake s source r = true) : MergeLaw (takeRequest source r s) :=
  (taken_takeRequest hs hcan rfl rfl rfl).handSegments

/-- The conditions for taking a request do not read the sources (R4). -/
theorem canTake_congr {source : Source} {r : Request} (hp : t.pendingList = s.pendingList)
    (hm : t.mergeTable = s.mergeTable) (ha : t.apertures = s.apertures) (hk : t.masks = s.masks)
    (hu : t.unmapped = s.unmapped) : canTake t source r = canTake s source r := by
  have hfind : ∀ a, findAperture t a = findAperture s a := fun a => by simp only [findAperture, ha]
  have hclassify : classify t source r = classify s source r := by
    simp only [classify, classifyInside, classifyUnmapped, copyOf, hfind, ha, hk, hu]
  have hneeds : needsEntry t = needsEntry s := by
    funext g; simp only [needsEntry, mergeOf, hm]
  simp only [canTake, ownerParked, parked, hp, hm, hclassify, hneeds]

theorem mergeLaw_arbitrate (h : MergeLaw s) : MergeLaw (arbitrate s) := by
  have hupstream : ∀ r, readyUpstream s = some r → MergeLaw (takeUpstream r s) := fun r hr =>
    mergeLaw_takeRequest (mergeLaw_congr (s := s) rfl rfl rfl h)
      ((canTake_congr (s := s) rfl rfl rfl rfl rfl).trans (canTake_of_readyUpstream hr))
  have hjob : ∀ run, readyJob s = some run → MergeLaw (takeJob run s) := fun run hr =>
    mergeLaw_takeRequest (mergeLaw_congr (s := s) rfl rfl rfl h)
      ((canTake_congr (s := s) rfl rfl rfl rfl rfl).trans (readyJob_run hr).2.2)
  unfold arbitrate
  split
  case h_1 hr _ => exact hupstream _ hr
  case h_2 hr _ _ => exact hupstream _ hr
  case h_3 _ hr _ => exact hjob _ hr
  case h_4 hr => exact hjob _ hr
  case h_5 => exact h

/-! ### The step -/

theorem mergeLaw_after (i : Instr) (h : MergeLaw s) : MergeLaw (after i s) := by
  by_cases htake : ∃ arrivals, i = .takeRequest arrivals
  · obtain ⟨arrivals, rfl⟩ := htake
    have hjoined : MergeLaw { s with upstream := s.upstream ++ arrivals } :=
      mergeLaw_congr (s := s) rfl rfl rfl h
    change MergeLaw (whenRunning (fun s => arbitrate (settled s)) _)
    unfold whenRunning
    split
    · exact hjoined
    · exact mergeLaw_arbitrate (mergeLaw_of_moves (settled_moves _) hjoined)
  by_cases hanswer : ∃ answer, i = .memoryAnswer answer
  · obtain ⟨answer, rfl⟩ := hanswer
    change MergeLaw (whenRunning (fun s => matchAnswer answer (settled s)) _)
    unfold whenRunning
    split
    · exact h
    · exact mergeLaw_matchAnswer _ (mergeLaw_of_moves (settled_moves _) h)
  by_cases ha : i = .resetAssertion
  · subst ha; exact mergeLaw_powerOn s
  by_cases hp : i = .powerUp
  · subst hp; exact mergeLaw_powerOn s
  by_cases hr : ∃ levels, i = .resetRelease levels
  · obtain ⟨levels, rfl⟩ := hr
    change MergeLaw (if s.inReset then endReset levels s else s)
    split
    · exact mergeLaw_congr (s := s) rfl rfl rfl h
    · exact h
  exact mergeLaw_of_moves (after_moves i s ha hp (fun levels hi => hr ⟨levels, hi⟩)
    fun _ => ⟨fun arrivals hi => htake ⟨arrivals, hi⟩, fun answer hi => hanswer ⟨answer, hi⟩⟩) h

end Sys2Proof.Machine

namespace Sys2Proof.Proofs
open Sys2Proof Sys2Proof.Machine

/-- Settles O52: the lists by the moves, the merge table by the actions of its entries and the taking of a
request. -/
theorem stepKeepsTheLimits : Obligations.StepKeepsTheLimits := by
  refine ⟨fun s t => step_keeps_within, fun s t hs h => ?_⟩
  rw [step_eq] at h
  injection h with h
  subst h
  split
  case h_1 c rest _ => exact mergeLaw_after c (mergeLaw_congr (s := s) rfl rfl rfl hs)
  case h_2 => exact mergeLaw_of_moves (idle_moves s) hs

end Sys2Proof.Proofs
end

section
/-! PROOF. The values after power-on reset. -/

namespace Sys2Proof.Machine

theorem keyWanted_reset : keyWanted Service.reset = false := by decide

theorem flagOf_reset (c : Cause) : flagOf State.reset c = false := by cases c <;> rfl

theorem enableOf_reset (c : Cause) : enableOf State.reset c = false := by cases c <;> rfl

theorem raisedOf_reset (g : Group) : raisedOf State.reset g = false := by cases g <;> rfl

end Sys2Proof.Machine

namespace Sys2Proof.Proofs
open Sys2Proof Sys2Proof.Machine

/-- Settles O4: every table of the reset state holds its one reset value. -/
theorem powerOnValues : Obligations.PowerOnValues := by
  have haperture : ∀ i : ApertureNo, State.reset.apertures[i] = Aperture.reset :=
    fun i => Vector.getElem_replicate i.isLt
  have hmask : ∀ i : Initiator, State.reset.masks[i] = 0xFFFF#16 :=
    fun i => Vector.getElem_replicate i.isLt
  have hstream : ∀ i : StreamNo, State.reset.streams[i] = StreamEntry.reset :=
    fun i => Vector.getElem_replicate i.isLt
  have hservice : ∀ i : ServiceNo, State.reset.services[i] = Service.reset :=
    fun i => Vector.getElem_replicate i.isLt
  have hjob : ∀ j : JobNo, State.reset.jobs[j] = JobSlot.reset :=
    fun j => Vector.getElem_replicate j.isLt
  refine ⟨⟨rfl, rfl, rfl, rfl⟩, ⟨fun i => ?_, hmask, rfl, rfl⟩, ⟨rfl, rfl, fun i => ?_⟩, fun i => ?_,
    ⟨rfl, rfl, rfl, rfl, rfl, rfl, rfl, rfl, rfl⟩, ⟨fun j => ?_, rfl, rfl, rfl⟩,
    ⟨rfl, rfl, fun c => ⟨flagOf_reset c, enableOf_reset c⟩, raisedOf_reset, rfl⟩, rfl⟩
  · rw [haperture i]
    exact ⟨rfl, rfl, rfl, rfl, rfl, rfl, rfl, rfl, rfl, rfl, rfl, rfl, rfl⟩
  · rw [hstream i]
    exact ⟨rfl, rfl, rfl, rfl, rfl⟩
  · rw [hservice i]
    exact ⟨rfl, rfl, rfl, rfl, rfl, rfl, rfl, rfl, rfl, ⟨rfl, rfl, rfl, rfl⟩, ⟨rfl, rfl, rfl, rfl⟩,
      keyWanted_reset⟩
  · rw [hjob j]
    exact ⟨rfl, ⟨rfl, rfl, rfl, rfl, rfl, rfl, rfl, rfl⟩, rfl, rfl, rfl, rfl, rfl, rfl, rfl⟩

end Sys2Proof.Proofs
end

section
/-! PROOF. The intake: classification, the conditions for taking, and what a taken request leaves (R3 to R11,
R19 to R24). -/

namespace Sys2Proof.Machine

variable {s u b : State} {source : Source} {r : Request} {v : Verdict}

/-! ### Commands outside reset -/

theorem exec_takeRequest (arrivals : List Request) (h : s.inReset = false) :
    exec (.takeRequest arrivals) s
      = .next (arbitrate (settled { s with upstream := s.upstream ++ arrivals })) :=
  congrArg Host.Outcome.next (whenRunning_running (s := { s with upstream := s.upstream ++ arrivals }) h)

theorem exec_issueAccess (swap : Bool) (h : s.inReset = false) :
    exec (.issueAccess swap) s = .next (issueNext swap (settled s)) :=
  congrArg Host.Outcome.next (whenRunning_running h)

theorem exec_memoryAnswer (answer : Answer) (h : s.inReset = false) :
    exec (.memoryAnswer answer) s = .next (matchAnswer answer (settled s)) :=
  congrArg Host.Outcome.next (whenRunning_running h)

theorem exec_releaseResponse (o : Owner) (h : s.inReset = false) :
    exec (.releaseResponse o) s = .next (releaseOldest o (settled s)) :=
  congrArg Host.Outcome.next (whenRunning_running h)

/-! ### Form and classification (R3, R19 to R24) -/

theorem illFormed_iff (source : Source) (r : Request) : illFormed source r = true ↔
    r.address.toNat % 8 ≠ 0 ∨ opLength r.op = 0 ∨ 16 < opLength r.op ∨
    r.address.toNat / 128 ≠ (r.address.toNat + 8 * opLength r.op - 1) / 128 ∨
    (source = .upstream ∧ r.initiator = 15) := by
  unfold illFormed Config.lineBytes Config.ownInitiator
  simp only [Bool.or_eq_true, Bool.and_eq_true, decide_eq_true_eq, or_assoc]

theorem classify_of_illFormed (h : illFormed source r = true) :
    classify s source r = ⟨.illFormed, none, some .illFormed⟩ := if_pos h

theorem inRange_iff (a : Aperture) (address : Addr) : inRange a address = true ↔
    a.valid = true ∧ a.base * 4096 ≤ address.toNat ∧ address.toNat < a.limit * 4096 := by
  simp only [inRange, Bool.and_eq_true, decide_eq_true_eq, Config.granuleBytes, and_assoc,
    Nat.le_div_iff_mul_le (Nat.succ_pos 4095), Nat.div_lt_iff_lt_mul (Nat.succ_pos 4095)]

/-- The one entry in range is found (R19). -/
theorem findAperture_of_only {i : ApertureNo} {address : Addr}
    (hi : inRange s.apertures[i] address = true)
    (honly : ∀ j : ApertureNo, j ≠ i → inRange s.apertures[j] address = false) :
    findAperture s address = some i := by
  unfold findAperture
  cases hfound : (List.finRange 12).find? fun i => inRange s.apertures[i] address with
  | none => exact absurd hi (by simpa using List.find?_eq_none.mp hfound i (List.mem_finRange i))
  | some j =>
    have hj : inRange s.apertures[j] address = true := by simpa using List.find?_some hfound
    by_contra hne
    rw [honly j (fun heq => hne (heq ▸ rfl))] at hj
    cases hj

theorem findAperture_of_none {address : Addr}
    (h : ∀ i : ApertureNo, inRange s.apertures[i] address = false) : findAperture s address = none :=
  List.find?_eq_none.mpr fun i _ => by rw [h i]; exact Bool.false_ne_true

theorem classify_of_found {i : ApertureNo} (hf : illFormed source r = false)
    (hi : findAperture s r.address = some i) : classify s source r = classifyInside s i r := by
  rw [classify, if_neg (by simp [hf]), hi]

theorem classify_of_not_found (hf : illFormed source r = false)
    (hi : findAperture s r.address = none) : classify s source r = classifyUnmapped s := by
  rw [classify, if_neg (by simp [hf]), hi]

/-! ### Taking (R4, R5, R8) -/

/-- A record offered before the request joins the lists is the one offered after. -/
theorem offer_joined (x : CaptureRecord) (s : State) (l : List PendingEntry) (n : Nat) (source : Source) :
    { offer x s with pendingList := l, taken := n, lastSource := source }
      = offer x { s with pendingList := l, taken := n, lastSource := source } := by
  unfold offer setCause raiseGroup enableOf
  dsimp only
  split
  · split
    · split <;> rfl
    · rfl
  · split <;> rfl

theorem offer_waits (x : CaptureRecord) (s : State) (w : List Waiting) :
    { offer x s with waiting := w } = offer x { s with waiting := w } := by
  unfold offer setCause raiseGroup enableOf
  dsimp only
  split
  · split
    · split <;> rfl
    · rfl
  · split <;> rfl

/-- The pending-list entry that a taken request makes (R5). -/
def takenEntry (n : Nat) (source : Source) (r : Request) (v : Verdict) : PendingEntry :=
  ⟨n, source, r, v.disposal, v.aperture, segmentsFor v r⟩

/-- The part when a request has joined the pending list (R5). -/
def joined (source : Source) (r : Request) (v : Verdict) (s : State) : State :=
  { s with
    taken := s.taken + 1, lastSource := source
    pendingList := s.pendingList ++ [takenEntry s.taken source r v] }

/-- The record that a verdict has is offered (R3, R21, R22, R24). -/
def recorded (r : Request) (v : Verdict) (s : State) : State :=
  match v.record with
  | none => s
  | some kind =>
    offer ⟨kind, r.initiator, opKind r.op, r.address, s.time.tickCount.setWidth 16,
      v.aperture.map (·.number), none, none, none, none⟩ s

theorem recorded_eq (r : Request) (v : Verdict) (s : State) : recorded r v s = recordVerdict v r s := rfl

theorem takeRequest_eq (hv : classify s source r = v) :
    takeRequest source r s
      = handSegments (takenEntry s.taken source r v) (recorded r v (joined source r v s)) := by
  subst hv
  unfold takeRequest
  dsimp only
  congr 1
  rw [← recorded_eq]
  unfold recorded joined
  cases (classify s source r).record with
  | none => rfl
  | some kind =>
    dsimp only
    rw [offer_pendingList, offer_taken]
    exact offer_joined _ s _ _ _

theorem segmentsFor_of_ne (h : v.disposal ≠ .performed) : segmentsFor v r = [] := by
  unfold segmentsFor
  cases hdisposal : v.disposal with
  | performed => exact absurd hdisposal h
  | illFormed => rfl
  | refused => rfl

theorem handSegments_of_nil {p : PendingEntry} (h : p.segments = []) (s : State) :
    handSegments p s = s := by
  unfold handSegments
  rw [h]

theorem handSegments_of_sample {p : PendingEntry} {g : Segment} {rest : List Segment} {c : SampleCopy}
    (h : p.segments = g :: rest) (hc : sampleCopy p = some c) (s : State) :
    handSegments p s = handSamples p s := by
  unfold handSegments
  rw [h, hc]

theorem handSegments_of_pieces {p : PendingEntry} {g : Segment} {rest : List Segment}
    (h : p.segments = g :: rest) (hc : sampleCopy p = none) (s : State) :
    handSegments p s = p.segments.zipIdx.foldl (handPiece p) s := by
  unfold handSegments
  rw [h, hc]

/-- A request of a RAW aperture or of unmapped space is one segment (R8). -/
theorem segmentsFor_of_raw {a : Option ApertureCopy} (record : Option CaptureKind)
    (h : ∀ c, a = some c → c.view = .raw) :
    segmentsFor ⟨.performed, a, record⟩ r = [⟨r.address, r.op, .raw, .inProgress, .plain, []⟩] := by
  cases a with
  | none => rfl
  | some c =>
    obtain ⟨number, base, view⟩ := c
    obtain rfl : view = .raw := h _ rfl
    rfl

theorem sampleCopy_of_raw {p : PendingEntry} (h : ∀ c, p.aperture = some c → c.view = .raw) :
    sampleCopy p = none := by
  unfold sampleCopy
  split
  case h_1 heq => exact ViewCopy.noConfusion (h _ heq)
  all_goals rfl

theorem sampleCopy_of_packet {p : PendingEntry} {c : ApertureCopy} {clearRead : InitiatorSet}
    {unlisted : ClearOrNull} (hp : p.aperture = some c) (h : c.view = .packet clearRead unlisted) :
    sampleCopy p = none := by
  obtain ⟨number, base, view⟩ := c
  obtain rfl : view = .packet clearRead unlisted := h
  unfold sampleCopy
  rw [hp]

theorem sampleCopy_of_sample {p : PendingEntry} {c : ApertureCopy} {backing : Addr} {width depth : Nat}
    {mask : BitVec 16} (hp : p.aperture = some c) (h : c.view = .sample backing width depth mask) :
    sampleCopy p = some ⟨c.number, width, depth, mask⟩ := by
  obtain ⟨number, base, view⟩ := c
  obtain rfl : view = .sample backing width depth mask := h
  unfold sampleCopy
  rw [hp]

theorem pieces_ne_nil (room : Nat) (address : Addr) (op : Op) : pieces room address op ≠ [] := by
  unfold pieces
  split <;> exact List.cons_ne_nil _ _

theorem cutSegments_ne_nil (a : Option ApertureCopy) (r : Request) :
    ∃ g rest, cutSegments a r = g :: rest := by
  refine List.exists_cons_of_ne_nil ?_
  unfold cutSegments
  split
  · simpa using pieces_ne_nil _ _ _
  · simpa using pieces_ne_nil _ _ _
  · exact List.cons_ne_nil _ _
  · exact List.cons_ne_nil _ _

/-- One RAW piece hands its access to the memory port unchanged (R8, R12). -/
theorem handRaw (n : Nat) (source : Source) (r : Request) (d : Disposal) (a : Option ApertureCopy)
    (l : List Segment) (s : State) :
    [(⟨r.address, r.op, .raw, .inProgress, .plain, []⟩ : Segment)].zipIdx.foldl
        (handPiece ⟨n, source, r, d, a, l⟩) s
      = { s with waiting := s.waiting ++ [⟨⟨r, .segment ⟨n, 0⟩ .lower⟩, false⟩] } := rfl

theorem handPiece_of_packet {p : PendingEntry} {g : Segment} {slot : Addr} {first k : Nat}
    (h : g.place = .packet slot first) : handPiece p s (g, k) = handPacket p ⟨p.id, k⟩ g slot first s := by
  unfold handPiece
  dsimp only
  rw [h]

/-! ### The conditions for taking (R4, R6, R9) -/

/-- A partial write segment whose block has no entry needs one (R4). -/
theorem needing_eq (u : State) :
    (fun g : Segment => match g.place, g.op with
      | .sample b _ false, .write _ => decide (∀ m ∈ u.mergeTable, m.block ≠ b)
      | _, _ => false) = needsEntry u := by
  funext g
  unfold needsEntry
  cases g.place with
  | raw => rfl
  | packet slot first => rfl
  | sample b first full =>
    cases g.op with
    | read n => cases full <;> rfl
    | write ws =>
      cases full with
      | true => rfl
      | false => rw [Bool.eq_iff_iff]; simp [mergeOf]

theorem segmentsFor_eq (v : Verdict) (r : Request) :
    segmentsFor v r = if v.disposal = .performed then cutSegments v.aperture r else [] := by
  unfold segmentsFor
  cases v.disposal <;> rfl

theorem canTake_iff (u : State) (source : Source) (r : Request) : canTake u source r = true ↔
    u.pendingList.length < 24 ∧
    (¬ ∃ e ∈ u.pendingList, entryOwner e = ownerOf source r.initiator ∧
      ∃ m ∈ u.mergeTable, ∃ x ∈ m.waits, x.id = e.id) ∧
    u.mergeTable.length + ((segmentsFor (classify u source r) r).filter (needsEntry u)).length ≤ 6 := by
  unfold canTake ownerParked parked Config.pendingLimit Config.mergeLimit
  simp only [Bool.and_eq_true, decide_eq_true_eq, Bool.not_eq_true', ← Bool.not_eq_true, List.any_eq_true,
    beq_iff_eq, and_assoc]

theorem readyUpstream_iff (u : State) (r : Request) :
    readyUpstream u = some r ↔ ∃ rest, u.upstream = r :: rest ∧ canTake u .upstream r = true := by
  unfold readyUpstream
  cases u.upstream with
  | nil => simp
  | cons x rest =>
    dsimp only
    by_cases hcan : canTake u .upstream x = true
    · rw [if_pos hcan]
      refine ⟨fun h => ?_, fun ⟨_, hhead, _⟩ => congrArg some (List.cons.inj hhead).1⟩
      obtain rfl : x = r := Option.some.inj h
      exact ⟨rest, rfl, hcan⟩
    · rw [if_neg hcan]
      refine ⟨(fun h => nomatch h), fun ⟨_, hhead, hr⟩ => absurd hr ?_⟩
      rwa [← (List.cons.inj hhead).1]

theorem readyJob_iff (u : State) (run : JobRun) : readyJob u = some run ↔
    u.run = some run ∧ run.taken = false ∧ canTake u .job run.request = true := by
  refine ⟨readyJob_run, fun ⟨hrun, htaken, hcan⟩ => ?_⟩
  rw [readyJob, hrun]
  exact if_pos (by simp [htaken, hcan])

theorem ByPath.withList (h : ByPath s u) : ByPath { s with pendingList := u.pendingList } u := by
  obtain ⟨-, ha, p, w, m, a, x, v, c, o, f, r, rfl⟩ := h
  exact ⟨rfl, ha, p, w, m, a, x, v, c, o, f, r, rfl⟩

theorem recorded_changes (r : Request) (v : Verdict) (s : State) : ByReport s (recorded r v s) :=
  recorded_eq r v s ▸ recordVerdict_changes v r s

/-- What a taken request leaves, the handlers of the memory path having acted (R5). -/
theorem handed_joined (p : PendingEntry) (s : State) :
    (handSegments p (recorded r v (joined source r v s))).pendingList.map takenAs
      = s.pendingList.map takenAs ++ [(s.taken, source, r, v.disposal, v.aperture)] ∧
    ByPath { s with
      lastSource := source, taken := s.taken + 1
      pendingList := (handSegments p (recorded r v (joined source r v s))).pendingList }
      (handSegments p (recorded r v (joined source r v s))) := by
  have hpath : ByPath (joined source r v s) (handSegments p (recorded r v (joined source r v s))) :=
    (recorded_changes r v _).path.trans (handSegments_changes p _)
  refine ⟨?_, hpath.withList⟩
  rw [hpath.1]
  simp [joined, takenAs, takenEntry]

/-- What the arbiter takes from stands as it was in all that the intake reads (R4, R6). -/
theorem arbiterTakes_keeps (h : arbiterTakes u source r b) :
    b.taken = u.taken ∧ b.pendingList = u.pendingList ∧ b.waiting = u.waiting ∧ b.time = u.time ∧
      classify b source r = classify u source r := by
  cases source with
  | upstream => obtain ⟨rest, -, -, -, rfl⟩ := h; exact ⟨rfl, rfl, rfl, rfl, rfl⟩
  | job => obtain ⟨run, -, -, -, -, -, rfl⟩ := h; exact ⟨rfl, rfl, rfl, rfl, rfl⟩

/-- The request that the arbiter takes joins the pending list, gives its record and has its segments handed
(R5, R8). -/
theorem exec_takeRequest_of_arbiterTakes {arrivals : List Request} (hr : s.inReset = false)
    (hu : u = settled { s with upstream := s.upstream ++ arrivals }) (h : arbiterTakes u source r b)
    (hv : classify u source r = v) :
    exec (.takeRequest arrivals) s = .next
      (handSegments (takenEntry u.taken source r v) (recorded r v (joined source r v b))) := by
  obtain ⟨htaken, -, -, -, hclass⟩ := arbiterTakes_keeps h
  rw [exec_takeRequest arrivals hr, ← hu, arbitrate_of_arbiterTakes h, takeRequest_eq (hclass.trans hv), htaken]

end Sys2Proof.Machine

namespace Sys2Proof.Proofs
open Sys2Proof Sys2Proof.Machine

/-- Settles O12: the one entry in range is found, or none is. -/
theorem classificationFollowsTheApertures : Obligations.ClassificationFollowsTheApertures := by
  refine ⟨inRange_iff, fun _ _ => rfl, fun s source r hf => ⟨fun i hi honly => ?_, fun hnone => ?_⟩⟩
  · rintro a c rfl rfl
    rw [classify_of_found hf (findAperture_of_only hi honly)]
    unfold classifyInside
    dsimp only
    refine ⟨fun hin => ?_, fun hout => ?_⟩
    · rw [if_pos (by cases hk : opKind r.op <;> simpa [relevantSet, hk] using hin)]
      rfl
    · rw [if_neg (by cases hk : opKind r.op <;> simpa [relevantSet, hk] using hout)]
      rfl
  · exact classify_of_not_found hf (findAperture_of_none hnone)

/-- Settles O11: a request that is not performed has no segment. -/
theorem refusedRequestMakesNoAccess : Obligations.RefusedRequestMakesNoAccess := by
  refine ⟨fun s source r => ⟨illFormed_iff source r, classify_of_illFormed⟩, ?_⟩
  rintro s arrivals hr u hu source r b v hb hv hd w rfl
  obtain ⟨htaken, hlist, -, htime, -⟩ := arbiterTakes_keeps hb
  rw [exec_takeRequest_of_arbiterTakes hr hu hb hv]
  have hnone : (takenEntry u.taken source r v).segments = [] := segmentsFor_of_ne hd
  rw [handSegments_of_nil hnone]
  unfold recorded joined takenEntry
  rw [segmentsFor_of_ne hd, htaken, hlist]
  dsimp only
  rw [htime] <;> cases v.record <;> rfl

/-- Settles O10: a RAW request has one piece; a sample request's segments go to the packer, and a packet
request's to the packet path in turn. -/
theorem rawRequestIsHandedUnchanged : Obligations.RawRequestIsHandedUnchanged := by
  refine ⟨?_, ?_⟩
  · rintro s arrivals hr u hu source r b a record hb hv hraw w rfl
    obtain ⟨htaken, hlist, hwaiting, htime, -⟩ := arbiterTakes_keeps hb
    rw [exec_takeRequest_of_arbiterTakes hr hu hb hv]
    have hsegments : segmentsFor ⟨.performed, a, record⟩ r
        = [⟨r.address, r.op, .raw, .inProgress, .plain, []⟩] := segmentsFor_of_raw record hraw
    rw [handSegments_of_pieces (p := takenEntry u.taken source r ⟨.performed, a, record⟩) hsegments
      (sampleCopy_of_raw hraw)]
    unfold takenEntry
    rw [hsegments]
    unfold recorded joined takenEntry
    rw [hsegments, htaken, hlist]
    dsimp only
    rw [htime]
    cases record with
    | none => exact congrArg _ (by rw [handRaw, hwaiting])
    | some kind =>
      refine congrArg _ ?_
      dsimp only
      rw [handRaw, offer_waiting, hwaiting]
      exact offer_waits _ _ _
  · rintro s arrivals hr u hu source r b c record hb hv p hp w rfl t ht
    obtain ⟨htaken, hlist, -, htime, -⟩ := arbiterTakes_keeps hb
    have hexec : exec (.takeRequest arrivals) s = .next (handSegments p t) := by
      rw [exec_takeRequest_of_arbiterTakes hr hu hb hv]
      subst hp ht
      unfold recorded joined takenEntry
      rw [htaken, hlist]
      dsimp only
      rw [htime]
      cases record <;> rfl
    rw [hexec]
    refine ⟨fun backing width depth mask hview => ?_, fun clearRead unlisted hview => ⟨?_, ?_⟩⟩
    · obtain ⟨g, rest, hsegments⟩ := cutSegments_ne_nil (some c) r
      rw [handSegments_of_sample (by rw [hp]; exact hsegments) (sampleCopy_of_sample (by rw [hp]) hview)]
    · intro g slot first hsegments hplace
      rw [handSegments_of_pieces hsegments (sampleCopy_of_packet (by rw [hp]) hview), hsegments]
      exact congrArg _ (handPiece_of_packet hplace)
    · intro g h slot first slot' first' hsegments hplace hplace'
      rw [handSegments_of_pieces hsegments (sampleCopy_of_packet (by rw [hp]) hview), hsegments]
      refine congrArg _ ?_
      simp only [List.zipIdx_cons, List.zipIdx_nil, List.foldl_cons, List.foldl_nil]
      rw [handPiece_of_packet hplace, handPiece_of_packet hplace']

/-- Settles O9: the conditions for taking, the ready sources, and the request that the arbiter takes. -/
theorem takeRequestAlternatesBetweenSources : Obligations.TakeRequestAlternatesBetweenSources := by
  intro s arrivals hr u hu
  have hexec := exec_takeRequest arrivals hr
  rw [← hu] at hexec
  refine ⟨?_, readyUpstream_iff u, readyJob_iff u, fun hup hjob => ?_, fun r hup hjob => ?_,
    fun run hjob hup => ?_⟩
  · rintro source r needing rfl v segs rfl rfl
    have hiff := canTake_iff u source r
    rw [segmentsFor_eq, ← needing_eq] at hiff
    exact hiff
  · rw [hexec, arbitrate, hup, hjob]
  · obtain ⟨rest, hhead, hcan⟩ := (readyUpstream_iff u r).mp hup
    have hb : arbiterTakes u .upstream r { u with upstream := u.upstream.tail } :=
      ⟨rest, hhead, hcan, hjob, by rw [hhead]; rfl⟩
    refine ⟨_, exec_takeRequest_of_arbiterTakes hr hu hb rfl, ?_⟩
    exact handed_joined _ _
  · obtain ⟨hrun, htaken, hcan⟩ := (readyJob_iff u run).mp hjob
    have hb : arbiterTakes u .job run.request { u with run := some { run with taken := true } } :=
      ⟨run, hrun, htaken, rfl, hcan, hup, rfl⟩
    refine ⟨_, exec_takeRequest_of_arbiterTakes hr hu hb rfl, ?_⟩
    exact handed_joined _ _

end Sys2Proof.Proofs
end

section
/-! PROOF. The memory port's issue of accesses and the release of responses (R2, R10 to R13, R38). -/

namespace Sys2Proof.Machine

variable {s : State} {b : Block}

/-! ### Accesses to a block (R38) -/

theorem blockSplit_iff (b : Block) : blockSplit b = true ↔ 128 < b.address.toNat % 128 + 4 * b.depth := by
  unfold blockSplit Config.lineBytes
  exact decide_eq_true_iff

theorem freshIo_eq (b : Block) :
    freshIo b = ⟨if 128 < b.address.toNat % 128 + 4 * b.depth then 2 else 1, false, [], []⟩ := by
  unfold freshIo
  simp only [blockSplit_iff]

/-- A block that runs across a line boundary has its first words in the line it starts in (R38). -/
theorem lowerWords_of_split (_hd : b.depth = 8 ∨ b.depth = 10 ∨ b.depth = 12)
    (h : 128 < b.address.toNat % 128 + 4 * b.depth) :
    lowerWords b = (128 - b.address.toNat % 128) / 8 := by
  unfold lowerWords blockWords Config.lineBytes
  omega

theorem handBlock_of_whole (r : Request) (op : Nat → Nat → Op) (handler : Half → Handler) (s : State)
    (h : b.address.toNat % 128 + 4 * b.depth ≤ 128) :
    handBlock r b op handler s = { s with waiting := s.waiting ++
      [⟨⟨⟨r.initiator, r.tag, op 0 (b.depth / 2), b.address⟩, handler .lower⟩, false⟩] } := by
  have hsplit : ¬ blockSplit b = true := by rw [blockSplit_iff]; omega
  rw [handBlock, if_neg hsplit]
  rfl

theorem handBlock_of_split (r : Request) (op : Nat → Nat → Op) (handler : Half → Handler) (s : State)
    (hd : b.depth = 8 ∨ b.depth = 10 ∨ b.depth = 12)
    (h : 128 < b.address.toNat % 128 + 4 * b.depth) {k : Nat}
    (hk : k = (128 - b.address.toNat % 128) / 8) :
    handBlock r b op handler s = { s with waiting := s.waiting ++
      [⟨⟨⟨r.initiator, r.tag, op 0 k, b.address⟩, handler .lower⟩, true⟩,
       ⟨⟨⟨r.initiator, r.tag, op k (b.depth / 2 - k), b.address + BitVec.ofNat 32 (8 * k)⟩,
        handler .upper⟩, false⟩] } := by
  rw [handBlock, if_pos ((blockSplit_iff b).mpr h), lowerWords_of_split hd h, ← hk]
  rfl

/-! ### Issue (R12, R13) -/

theorem issueNext_of_nil (swap : Bool) (h : s.waiting = []) : issueNext swap s = s := by
  rw [issueNext, h]
  rfl

theorem issueNext_of_next {swap : Bool} {a : Access} {rest : List Waiting}
    (h : nextAccess swap s.waiting = some (a, rest)) :
    issueNext swap s = { s with waiting := rest, outstanding := s.outstanding ++ [a] } := by
  rw [issueNext, h]

/-- The oldest access is next, unless the second of two handed together is (R12). -/
theorem nextAccess_of_oldest {swap : Bool} {w : Waiting} {rest : List Waiting}
    (h : swap = false ∨ w.paired = false ∨ rest = []) :
    nextAccess swap (w :: rest) = some (w.access, rest) := by
  cases rest with
  | nil => rfl
  | cons v rest =>
    have hnot : (swap && w.paired) = false := by
      obtain h | h | h := h
      · simp [h]
      · simp [h]
      · cases h
    rw [nextAccess, if_neg (by simp [hnot])]

theorem nextAccess_of_swap {w v : Waiting} {rest : List Waiting} (h : w.paired = true) :
    nextAccess true (w :: v :: rest) = some (v.access, { w with paired := false } :: rest) := by
  rw [nextAccess, if_pos (by simp [h])]

/-! ### The status of an entry (R10) -/

/-- The worst of some states, FAULT before REFUSED before DONE (R10). -/
theorem foldl_worseState (l : List SegState) (a : SegState) : l.foldl worseState a =
    if .inProgress ∈ a :: l then .inProgress else if .fault ∈ a :: l then .fault
    else if .refused ∈ a :: l then .refused else .done := by
  induction l generalizing a with
  | nil => cases a <;> rfl
  | cons x l ih =>
    rw [List.foldl_cons, ih]
    cases a <;> cases x <;> simp [worseState]

theorem entryStatus_of_ne {e : PendingEntry} (h : e.disposal ≠ .performed) :
    entryStatus e = some .refused := by
  unfold entryStatus
  cases hd : e.disposal with
  | performed => exact absurd hd h
  | illFormed => rfl
  | refused => rfl

theorem entryStatus_of_performed {e : PendingEntry} (h : e.disposal = .performed) : entryStatus e =
    if ∃ g ∈ e.segments, g.state = .inProgress then none
    else some (if ∃ g ∈ e.segments, g.state = .fault then .fault
      else if ∃ g ∈ e.segments, g.state = .refused then .refused else .done) := by
  unfold entryStatus
  rw [h]
  dsimp only
  rw [foldl_worseState]
  simp only [List.mem_cons, List.mem_map, reduceCtorEq, false_or]
  by_cases hp : ∃ g ∈ e.segments, g.state = .inProgress
  · rw [if_pos hp, if_pos hp]
  · rw [if_neg hp, if_neg hp]
    by_cases hf : ∃ g ∈ e.segments, g.state = .fault
    · rw [if_pos hf, if_pos hf]
    · rw [if_neg hf, if_neg hf]
      by_cases hr : ∃ g ∈ e.segments, g.state = .refused
      · rw [if_pos hr, if_pos hr]
      · rw [if_neg hr, if_neg hr]

/-! ### Release (R11) -/

theorem oldestOf_of_first {o : Owner} {before after : List PendingEntry} {e : PendingEntry}
    (hlist : s.pendingList = before ++ e :: after) (hbefore : ∀ x ∈ before, entryOwner x ≠ o)
    (he : entryOwner e = o) : oldestOf s o = some e := by
  unfold oldestOf
  rw [hlist, List.find?_append, List.find?_eq_none.mpr fun x hx => by simpa using hbefore x hx]
  simp [he]

theorem releaseOldest_of_none {o : Owner} (h : ∀ x ∈ s.pendingList, entryOwner x ≠ o) :
    releaseOldest o s = s := by
  unfold releaseOldest oldestOf
  rw [List.find?_eq_none.mpr fun x hx => by simpa using h x hx]

theorem releaseOldest_of_unfinished {o : Owner} {e : PendingEntry} (h : oldestOf s o = some e)
    (hst : entryStatus e = none) : releaseOldest o s = s := by
  unfold releaseOldest
  rw [h]
  dsimp only
  rw [hst]

theorem releaseOldest_of_status {o : Owner} {e : PendingEntry} {st : Status} (h : oldestOf s o = some e)
    (hst : entryStatus e = some st) : releaseOldest o s =
      deliverResponse e st { s with pendingList := s.pendingList.filter fun x => decide (x.id ≠ e.id) } := by
  unfold releaseOldest
  rw [h]
  dsimp only
  rw [hst]
  dsimp only
  congr 3
  funext x
  rw [Bool.eq_iff_iff]
  simp

end Sys2Proof.Machine

namespace Sys2Proof.Proofs
open Sys2Proof Sys2Proof.Machine

/-- Settles O14: a block's access is one, or two in ascending address order. -/
theorem accessesAreIssuedInOrder : Obligations.AccessesAreIssuedInOrder := by
  refine ⟨?_, ?_⟩
  · rintro s swap hr u rfl
    rw [exec_issueAccess swap hr]
    refine ⟨fun hw => ?_, fun w rest hw horder => ?_, fun w v rest hw hswap hpaired => ?_⟩
    · rw [issueNext_of_nil swap hw]
    · rw [issueNext_of_next (hw ▸ nextAccess_of_oldest horder)]
    · subst hswap
      rw [issueNext_of_next (hw ▸ nextAccess_of_swap hpaired)]
  · rintro s r b handler words hdepth hwords n place k rfl rfl hk whole rfl
    have hall : allEnabled = 0xFF := rfl
    refine ⟨?_, ?_, freshIo_eq b⟩
    · rintro hwhole one rfl
      refine ⟨handBlock_of_whole r _ handler s hwhole, ?_⟩
      rw [handBlockWrite, handBlock_of_whole r _ handler s hwhole, List.drop_zero,
        List.take_of_length_le hwords.le, hall]
    · rintro hsplit two rfl
      refine ⟨handBlock_of_split r _ handler s hdepth hsplit hk, ?_⟩
      rw [handBlockWrite, handBlock_of_split r _ handler s hdepth hsplit hk, List.drop_zero,
        List.take_of_length_le (l := words.drop k) (by rw [List.length_drop, hwords]), hall]

/-- Settles O16: the oldest entry of the order is the first of the pending list that belongs to it. -/
theorem responsesAreReleasedInOrder : Obligations.ResponsesAreReleasedInOrder := by
  refine ⟨fun e => ⟨entryStatus_of_ne, fun hd => ?_, fun hs => ?_, fun hs => ?_, rfl⟩, ?_⟩
  · rw [entryStatus_of_performed hd]
    refine ⟨by simp, fun hnone => ?_⟩
    exact if_neg fun ⟨g, hg, hp⟩ => hnone g hg hp
  · rw [entryOwner, hs]; rfl
  · rw [entryOwner, hs]; rfl
  · rintro s o hr u rfl
    rw [exec_releaseResponse o hr]
    refine ⟨fun hnone => by rw [releaseOldest_of_none hnone], fun before e after hlist hbefore he => ?_⟩
    have holdest := oldestOf_of_first hlist hbefore he
    refine ⟨fun hst => by rw [releaseOldest_of_unfinished holdest hst], fun st hst => ?_⟩
    rintro data rfl w rfl
    rw [releaseOldest_of_status holdest hst]
    refine ⟨fun hs => ?_, fun hs => ?_⟩
    · rw [deliverResponse, hs]
      rfl
    · rw [deliverResponse, hs]
      rfl

end Sys2Proof.Proofs
end

section
/-! PROOF. Answers of the memory port (R10, R13, R14, R46, R48, R55, R57, R62, R63, R102 to R105). -/

namespace Sys2Proof.Machine

variable {s : State} {ref : SegRef} {p : PendingEntry} {g : Segment} {half : Half} {access : Request}
  {answer : Answer}

/-! ### The handler of an answer (R13) -/

theorem matchAnswer_of_nil (answer : Answer) (h : s.outstanding = []) : matchAnswer answer s = s := by
  rw [matchAnswer, h]

theorem matchAnswer_of_cons {a : Access} {rest : List Access} (answer : Answer)
    (h : s.outstanding = a :: rest) :
    matchAnswer answer s = handleAnswer a answer { s with outstanding := rest } := by
  rw [matchAnswer, h]

theorem handleAnswer_of_segment {a : Access} (ha : a.handler = .segment ref half) :
    handleAnswer a answer s = answerSegment ref half a.record answer s := by
  rw [handleAnswer, ha]

theorem handleAnswer_of_header {a : Access} (ha : a.handler = .header ref)
    (hseg : segmentOf s ref = some (p, g)) :
    handleAnswer a answer s = answerHeader p g ref a.record answer s := by
  rw [handleAnswer, ha]
  dsimp only
  rw [hseg]

theorem handleAnswer_of_merge {a : Access} {b : Block} {e : MergeEntry} (ha : a.handler = .merge b half)
    (he : mergeOf s b = some e) : handleAnswer a answer s = answerMerge e half a.record answer s := by
  rw [handleAnswer, ha]
  dsimp only
  rw [he]

theorem handleAnswer_of_absorbed {a : Access} (ha : a.handler = .absorbed) : handleAnswer a answer s = s := by
  rw [handleAnswer, ha]

theorem answerSegment_of_plain (hseg : segmentOf s ref = some (p, g)) (hw : g.work = .plain) :
    answerSegment ref half access answer s = answerPlain p g ref access answer s := by
  rw [answerSegment, hseg]
  dsimp only
  rw [hw]

theorem answerSegment_of_direct {io : BlockIo} (hseg : segmentOf s ref = some (p, g))
    (hw : g.work = .direct io) :
    answerSegment ref half access answer s = answerDirect p g ref io half access answer s := by
  rw [answerSegment, hseg]
  dsimp only
  rw [hw]

theorem answerSegment_of_clear {plan : ClearPlan} (hseg : segmentOf s ref = some (p, g))
    (hw : g.work = .clear plan) :
    answerSegment ref half access answer s = answerClear p g ref plan access answer s := by
  rw [answerSegment, hseg]
  dsimp only
  rw [hw]

/-! ### What an answer leaves of the lists -/

theorem entryFault_pendingList (p : PendingEntry) (r : Request) (s : State) :
    (entryFault p r s).pendingList = s.pendingList := (entryFault_changes p r s).tableKept.2

theorem entryFault_mergeTable (p : PendingEntry) (r : Request) (s : State) :
    (entryFault p r s).mergeTable = s.mergeTable := (entryFault_changes p r s).tableKept.1

/-- A change of one segment of the list `l`. -/
def changedIn (l : List PendingEntry) (ref : SegRef) (f : Segment → Segment) : List PendingEntry :=
  l.map fun e => if e.id = ref.id then { e with segments := e.segments.modify ref.index f } else e

theorem finishSegment_eq {l : List PendingEntry} (h : s.pendingList = l) (ref : SegRef) (st : SegState)
    (d : List Word) : finishSegment ref st d s =
      { s with pendingList := changedIn l ref fun x => { x with state := st, data := d } } := by
  subst h; rfl

theorem setWork_eq {l : List PendingEntry} (h : s.pendingList = l) (ref : SegRef) (w : SegWork) :
    setWork ref w s = { s with pendingList := changedIn l ref fun x => { x with work := w } } := by
  subst h; rfl

/-! ### Answers to segments -/

theorem answerPlain_of_error (p : PendingEntry) (g : Segment) (ref : SegRef) (r : Request) (s : State) :
    answerPlain p g ref r .error s = finishSegment ref .fault [] (entryFault p r s) := rfl

theorem answerPlain_of_okay (p : PendingEntry) (g : Segment) (ref : SegRef) (r : Request)
    (data : Vector Word 16) (s : State) : answerPlain p g ref r (.okay data) s =
      finishSegment ref .done (match g.op with | .read n => data.toList.take n | .write _ => []) s := by
  unfold answerPlain
  cases g.op <;> rfl

/-- An answer to a direct access that leaves accesses to be answered (R46, R48). -/
theorem answerDirect_of_left {io : BlockIo} (h : (ioAnswered io half access.op answer).left ≠ 0) :
    answerDirect p g ref io half access answer s =
      setWork ref (.direct (ioAnswered io half access.op answer))
        (if answer = .error then entryFault p access s else s) := by
  unfold answerDirect
  exact if_neg h

theorem answerDirect_of_failed {io : BlockIo} (h : (ioAnswered io half access.op answer).left = 0)
    (hf : (ioAnswered io half access.op answer).failed = true) :
    answerDirect p g ref io half access answer s =
      finishSegment ref .fault [] (if answer = .error then entryFault p access s else s) := by
  unfold answerDirect
  dsimp only
  rw [if_pos h, hf]

theorem answerDirect_of_read {io : BlockIo} {b : Block} {first n : Nat} {full : Bool} {c : SampleCopy}
    (h : (ioAnswered io half access.op answer).left = 0)
    (hf : (ioAnswered io half access.op answer).failed = false) (hplace : g.place = .sample b first full)
    (hc : sampleCopy p = some c) (hop : g.op = .read n) :
    answerDirect p g ref io half access answer s =
      finishSegment ref .done
        (expandWords c.width c.depth
          (unpackWords c.depth (ioWords (ioAnswered io half access.op answer))) first n)
        (if answer = .error then entryFault p access s else s) := by
  unfold answerDirect
  dsimp only
  rw [if_pos h, hf, hop, hplace, hc]

theorem answerDirect_of_write {io : BlockIo} {ws : List WriteWord}
    (h : (ioAnswered io half access.op answer).left = 0)
    (hf : (ioAnswered io half access.op answer).failed = false) (hop : g.op = .write ws) :
    answerDirect p g ref io half access answer s =
      finishSegment ref .done [] (if answer = .error then entryFault p access s else s) := by
  unfold answerDirect
  dsimp only
  rw [if_pos h, hf, hop]

theorem settleHeader_of_ok {w0 w1 : Word} {plan : ClearPlan} (h : settlePlan s (headerOf w0 w1) = .ok plan) :
    settleHeader p g w0 w1 s = (plan, s) := by
  unfold settleHeader
  dsimp only
  rw [h]

theorem settleHeader_of_error {w0 w1 : Word} {i : Option ServiceNo}
    (h : settlePlan s (headerOf w0 w1) = .error i) : settleHeader p g w0 w1 s =
      (.asStored, offer (clearFailedRecord s p g (headerOf w0 w1).pid i) s) := by
  unfold settleHeader
  dsimp only
  rw [h]

theorem answerClear_of_error (p : PendingEntry) (g : Segment) (ref : SegRef) (plan : ClearPlan) (r : Request)
    (s : State) : answerClear p g ref plan r .error s = finishSegment ref .fault [] (entryFault p r s) := rfl

theorem answerClear_of_settled {plan : ClearPlan} {slot : Addr} {first : Nat} {data : Vector Word 16}
    (hplace : g.place = .packet slot first) (hplan : plan ≠ .fromData) :
    answerClear p g ref plan access (.okay data) s =
      finishSegment ref .done (clearData plan first (data.toList.take (opLength g.op))) s := by
  unfold answerClear
  rw [hplace]
  cases plan with
  | fromData => exact absurd rfl hplan
  | keyed d => rfl
  | asStored => rfl
  | fetching => rfl

/-- The first two words of a read that has them. -/
theorem getD_take_toList (data : Vector Word 16) {k n : Nat} (hk : k < n) (h16 : k < 16) :
    (data.toList.take n).getD k 0 = data[k] := by
  rw [List.getD_eq_getElem?_getD, List.getElem?_take_of_lt hk]
  simp [h16]

theorem answerClear_of_fromData {slot : Addr} {first : Nat} {data : Vector Word 16}
    (hplace : g.place = .packet slot first) (hn : 2 ≤ opLength g.op) :
    answerClear p g ref .fromData access (.okay data) s =
      finishSegment ref .done
        (clearData (settleHeader p g data[0] data[1] s).1 first (data.toList.take (opLength g.op)))
        (settleHeader p g data[0] data[1] s).2 := by
  unfold answerClear
  rw [hplace]
  dsimp only
  rw [getD_take_toList data (by omega) (by decide), getD_take_toList data (by omega) (by decide)]

/-! ### Answers to entries -/

theorem ioAnswered_eq (answer : Answer) (op : Op) (io : BlockIo) (half : Half) :
    ioAnswered io half op answer = match answer, half with
      | .error, _ => { io with left := io.left - 1, failed := true }
      | .okay data, .lower => { io with left := io.left - 1, lower := data.toList.take (opLength op) }
      | .okay data, .upper => { io with left := io.left - 1, upper := data.toList.take (opLength op) } := by
  cases answer <;> cases half <;> rfl

/-- The state in which an answer is met by an entry: an ERROR gives its record (R14). -/
def metWith (e : MergeEntry) (access : Request) (answer : Answer) (s : State) : State :=
  match answer, (servedBy e).bind (entryOf s) with
  | .error, some p => entryFault p access s
  | _, _ => s

theorem metWith_mergeTable (e : MergeEntry) (access : Request) (answer : Answer) (s : State) :
    (metWith e access answer s).mergeTable = s.mergeTable := by
  unfold metWith
  split
  · exact entryFault_mergeTable _ _ s
  · rfl

theorem answerMerge_of_left {e : MergeEntry} (h : (ioAnswered e.io half access.op answer).left ≠ 0) :
    answerMerge e half access answer s =
      putMerge { e with io := ioAnswered e.io half access.op answer } (metWith e access answer s) :=
  if_neg h

theorem answerMerge_of_complete {e : MergeEntry} (h : (ioAnswered e.io half access.op answer).left = 0) :
    answerMerge e half access answer s =
      mergeRun (completeMerge { e with io := ioAnswered e.io half access.op answer }
        (metWith e access answer s)) :=
  if_pos h

end Sys2Proof.Machine

namespace Sys2Proof.Proofs
open Sys2Proof Sys2Proof.Machine

/-- Settles O15: an answer goes to the handler of the oldest access, which acts by what its segment or entry
waits for. -/
theorem answersGoToTheOldestAccess : Obligations.AnswersGoToTheOldestAccess := by
  refine ⟨?_, fun e s => ?_⟩
  · rintro s answer hr u rfl
    rw [exec_memoryAnswer answer hr]
    refine ⟨fun hnone => by rw [matchAnswer_of_nil answer hnone], fun a rest hcons => ?_⟩
    rw [matchAnswer_of_cons answer hcons]
    generalize settled s = u at hcons ⊢
    rintro w rfl fault hfault change rfl ends rfl answered hanswered
    have hfaultOf : ∀ p, fault p = entryFault p a.record { u with outstanding := rest } := fun p => by
      rw [hfault]; rfl
    have hio : ∀ io half, answered io half = ioAnswered io half a.record.op answer := fun io half => by
      rw [hanswered, ioAnswered_eq] <;> cases answer <;> cases half <;> rfl
    have hfaulted : ∀ p, (fault p).pendingList = u.pendingList := fun p => by
      rw [hfaultOf, entryFault_pendingList]
    refine ⟨fun ha => by rw [handleAnswer_of_absorbed ha], fun ref half p g ha hseg => ?_,
      fun ref p g ha hseg => ?_, fun b half e ha he => ?_⟩
    · rw [handleAnswer_of_segment ha]
      have hseg' : segmentOf { u with outstanding := rest } ref = some (p, g) := hseg
      refine ⟨fun hw => ?_, fun io b first full c hw hplace hc => ?_, fun plan slot first hw hplace => ?_⟩
      · rw [answerSegment_of_plain hseg' hw]
        refine ⟨?_, ?_⟩
        · rintro data rfl
          rw [answerPlain_of_okay, finishSegment_eq rfl]
          cases g.op <;> rfl
        · rintro rfl
          rw [answerPlain_of_error, ← hfaultOf, finishSegment_eq (hfaulted p)]
          rfl
      · rw [answerSegment_of_direct hseg' hw]
        rintro x y hx rfl
        rw [hio]
        have hx' : x = if answer = .error then entryFault p a.record { u with outstanding := rest }
            else { u with outstanding := rest } := by rw [hx, hfaultOf]
        have hlist : x.pendingList = u.pendingList := by
          rw [hx]
          split
          · exact hfaulted p
          · rfl
        refine ⟨fun hleft => ?_, fun hleft hfailed => ?_, fun hleft hok => ?_⟩
        · rw [answerDirect_of_left hleft, ← hx', setWork_eq hlist]
          rfl
        · rw [answerDirect_of_failed hleft hfailed, ← hx', finishSegment_eq hlist]
          rfl
        · cases hop : g.op with
          | read n =>
            rw [answerDirect_of_read hleft hok hplace hc hop, ← hx', finishSegment_eq hlist]
            rfl
          | write ws =>
            rw [answerDirect_of_write hleft hok hop, ← hx', finishSegment_eq hlist]
            rfl
      · rw [answerSegment_of_clear hseg' hw]
        refine ⟨?_, ?_⟩
        · rintro rfl
          rw [answerClear_of_error, ← hfaultOf, finishSegment_eq (hfaulted p)]
          rfl
        · rintro data rfl words rfl
          refine ⟨fun hplan => ?_, ?_⟩
          · rw [answerClear_of_settled hplace hplan, finishSegment_eq rfl]
            rfl
          · rintro rfl hn h rfl
            rw [answerClear_of_fromData hplace hn]
            cases hplan : settlePlan { u with outstanding := rest } (headerOf data[0] data[1]) with
            | ok found =>
              rw [settleHeader_of_ok hplan, finishSegment_eq rfl]
              rfl
            | error i =>
              rw [settleHeader_of_error hplan, finishSegment_eq (offer_pendingList (s := _) _)]
              rfl
    · have hseg' : segmentOf { u with outstanding := rest } ref = some (p, g) := hseg
      rw [handleAnswer_of_header ha hseg']
      refine ⟨?_, ?_⟩
      · rintro rfl
        rw [answerHeader, ← hfaultOf, finishSegment_eq (hfaulted p)]
        rfl
      · rintro data rfl h rfl reads rfl
        rw [answerHeader]
        dsimp only
        cases hplan : settlePlan { u with outstanding := rest } (headerOf data[0] data[1]) with
        | ok found =>
          rw [settleHeader_of_ok hplan]
          rfl
        | error i =>
          rw [settleHeader_of_error hplan, setWork_eq (offer_pendingList (s := _) _), handPacketRead, handAccess]
          dsimp only
          rw [offer_waiting]
          rfl
    · have he' : mergeOf { u with outstanding := rest } b = some e := he
      rw [handleAnswer_of_merge ha he']
      rintro served hserved x y hx rfl
      rw [hio]
      have hserves : served = servedBy e := by
        rw [hserved]
        unfold servedBy
        cases e.item <;> cases e.claims <;> rfl
      have hmet : metWith e a.record answer { u with outstanding := rest } = x := by
        rw [hx, hserves]
        cases answer with
        | okay data => rfl
        | error =>
          have hentry : (servedBy e).bind (entryOf { u with outstanding := rest })
              = (servedBy e).bind (entryOf u) := rfl
          unfold metWith
          rw [hentry]
          cases (servedBy e).bind (entryOf u) with
          | none => rfl
          | some p => exact (hfaultOf p).symm
      have htable : x.mergeTable = u.mergeTable := by rw [← hmet, metWith_mergeTable]
      refine ⟨fun hleft => ?_, fun hleft => ?_⟩
      · rw [answerMerge_of_left hleft, hmet, putMerge, htable]
      · rw [answerMerge_of_complete hleft, hmet]
  · rintro put rfl ends rfl read rfl
    refine ⟨fun hst hf => ⟨fun ref hitem => ?_, fun hitem => ?_⟩, fun hst hf => ⟨fun ref hitem => ?_,
      fun id rest hitem hclaims => ?_, fun id hitem hclaims hfor => ?_⟩, fun ref hst hitem => ?_⟩
    · rw [completeMerge, hst, hf, hitem]; rfl
    · rw [completeMerge, hst, hf, hitem]; rfl
    · rw [completeMerge, hst, hf]; dsimp only; rw [fetchFailed, hitem]; rfl
    · rw [completeMerge, hst, hf]; dsimp only; rw [fetchFailed, hitem, hclaims]; rfl
    · rw [completeMerge, hst, hf]; dsimp only; rw [fetchFailed, hitem, hclaims]; dsimp only; rw [hfor]; rfl
    · rw [completeMerge, hst, hitem]; rfl

end Sys2Proof.Proofs
end

section
/-! PROOF. The cutting of requests into segments (R8, R36, R42, R66). -/

namespace Sys2Proof.Machine

variable {r : Request} {a : Addr} {op : Op} {room base : Nat}

/-! ### The parts of an operation (R8) -/

theorem opLength_opTake (h : room ≤ opLength op) : opLength (opTake room op) = room := by
  cases op with
  | read n => exact Nat.min_eq_left h
  | write ws => exact List.length_take_of_le h

theorem opLength_opDrop (k : Nat) (op : Op) : opLength (opDrop k op) = opLength op - k := by
  cases op with
  | read n => rfl
  | write ws => exact List.length_drop

theorem opKind_opTake (k : Nat) (op : Op) : opKind (opTake k op) = opKind op := by cases op <;> rfl

theorem opKind_opDrop (k : Nat) (op : Op) : opKind (opDrop k op) = opKind op := by cases op <;> rfl

theorem opWords_take_append_drop (k : Nat) (op : Op) :
    opWords (opTake k op) ++ opWords (opDrop k op) = opWords op := by
  cases op with
  | read n => rfl
  | write ws => exact List.take_append_drop k ws

theorem pieces_of_le (h : opLength op ≤ room) : pieces room a op = [(a, op)] := if_pos h

theorem pieces_of_gt (h : room < opLength op) : pieces room a op =
    [(a, opTake room op), (a + BitVec.ofNat 32 (8 * room), opDrop room op)] := if_neg (Nat.not_le.mpr h)

/-- The segments cut so that the first has `room` words keep within units of a view, each piece being its
own segment's address and operation. -/
structure CutAt (unit base : Nat) (a : Addr) (op : Op) (room : Nat) : Prop where
  fits  : opLength op ≤ room ↔ (a.toNat - base * 4096) / unit =
    (a.toNat - base * 4096 + 8 * opLength op - 1) / unit
  some_words : 1 ≤ opLength op
  pos   : 1 ≤ room
  lower : room < opLength op →
    (a.toNat - base * 4096) / unit = (a.toNat - base * 4096 + 8 * room - 1) / unit
  next  : room < opLength op → (a + BitVec.ofNat 32 (8 * room)).toNat = a.toNat + 8 * room
  upper : room < opLength op → (a.toNat + 8 * room - base * 4096) / unit =
    (a.toNat + 8 * room - base * 4096 + 8 * (opLength op - room) - 1) / unit

/-- What holds of the pieces holds of the segments: they cover the request in address order, and none
crosses a boundary (R8). -/
theorem CutAt.segments {unit : Nat} (h : CutAt unit base a op room) (place : Addr → Op → Place) :
    let segs := (pieces room a op).map (freshSegment place)
    let o := a.toNat - base * 4096
    segs.length = (if o / unit = (o + 8 * opLength op - 1) / unit then 1 else 2) ∧
    (segs.map fun g => opLength g.op).sum = opLength op ∧
    (segs.map fun g => opWords g.op).flatten = opWords op ∧
    (segs.map (·.address)).head? = some a ∧
    (∀ g ∈ segs, opKind g.op = opKind op ∧ 1 ≤ opLength g.op ∧
      (g.address.toNat - base * 4096) / unit
        = (g.address.toNat - base * 4096 + 8 * opLength g.op - 1) / unit) ∧
    (∀ g h, segs = [g, h] → h.address.toNat = g.address.toNat + 8 * opLength g.op) := by
  have hwords := h.some_words
  have hpos := h.pos
  by_cases hfit : opLength op ≤ room
  · rw [pieces_of_le hfit]
    refine ⟨?_, ?_, ?_, rfl, ?_, ?_⟩
    · rw [if_pos (h.fits.mp hfit)]; rfl
    · exact Nat.add_zero _
    · exact List.append_nil _
    · intro g hg
      rw [List.mem_singleton.mp hg]
      exact ⟨rfl, hwords, h.fits.mp hfit⟩
    · intro g k heq
      simp at heq
  · have hgt : room < opLength op := Nat.not_le.mp hfit
    have htake := opLength_opTake hgt.le
    have hdrop := opLength_opDrop room op
    rw [pieces_of_gt hgt]
    refine ⟨?_, ?_, ?_, rfl, ?_, ?_⟩
    · rw [if_neg (mt h.fits.mpr hfit)]; rfl
    · simp only [List.map_cons, List.map_nil, freshSegment, List.sum_cons, List.sum_nil, htake, hdrop]
      omega
    · simpa [freshSegment] using opWords_take_append_drop room op
    · intro g hg
      simp only [List.map_cons, List.map_nil, List.mem_cons, List.not_mem_nil, or_false] at hg
      obtain rfl | rfl := hg
      · refine ⟨opKind_opTake room op, ?_, ?_⟩
        · simpa only [freshSegment, htake] using hpos
        · simpa only [freshSegment, htake] using h.lower hgt
      · refine ⟨opKind_opDrop room op, ?_, ?_⟩
        · simp only [freshSegment, hdrop]; omega
        · simpa only [freshSegment, hdrop, h.next hgt] using h.upper hgt
    · intro g k heq
      simp only [List.map_cons, List.map_nil, List.cons.injEq, and_true] at heq
      obtain ⟨rfl, rfl⟩ := heq
      simpa only [freshSegment, htake] using h.next hgt

/-! ### Boundaries (R8, R36, R66) -/

/-- What a well-formed request of the job engine is (R3). -/
theorem wellFormed_iff (r : Request) : illFormed .job r = false ↔
    r.address.toNat % 8 = 0 ∧ opLength r.op ≠ 0 ∧ opLength r.op ≤ 16 ∧
    r.address.toNat / 128 = (r.address.toNat + 8 * opLength r.op - 1) / 128 := by
  rw [← Bool.not_eq_true, illFormed_iff]
  simp only [reduceCtorEq, false_and, or_false]
  omega

theorem toNat_add_ofNat {k : Nat} (h : a.toNat + k < 2 ^ 32) :
    (a + BitVec.ofNat 32 k).toNat = a.toNat + k := by
  rw [BitVec.toNat_add, BitVec.toNat_ofNat]
  omega

/-- A sample request is cut at the blocks of 64 view bytes: a line holds two of them (R36). -/
theorem cutAt_sample (hr : illFormed .job r = false) (hbase : base * 4096 ≤ r.address.toNat) :
    CutAt 64 base r.address r.op (8 - viewOffset base r.address % Config.blockBytes / 8) := by
  obtain ⟨halign, hsome, hmax, hline⟩ := (wellFormed_iff r).mp hr
  have hlt : r.address.toNat < 2 ^ 32 := r.address.isLt
  unfold viewOffset apertureStart Config.granuleBytes Config.blockBytes
  refine ⟨?_, by omega, by omega, ?_, fun _ => toNat_add_ofNat ?_, ?_⟩ <;> omega

/-- A packet request is cut at the slots of 192 bytes, longer than any request (R66). -/
theorem cutAt_packet (hr : illFormed .job r = false) (hbase : base * 4096 ≤ r.address.toNat) :
    CutAt 192 base r.address r.op (Config.slotWords - slotWord base r.address) := by
  obtain ⟨halign, hsome, hmax, hline⟩ := (wellFormed_iff r).mp hr
  have hlt : r.address.toNat < 2 ^ 32 := r.address.isLt
  unfold slotWord apertureStart Config.granuleBytes Config.slotBytes Config.slotWords
  refine ⟨?_, by omega, by omega, ?_, fun _ => toNat_add_ofNat ?_, ?_⟩ <;> omega

/-! ### Places (R36, R42, R66) -/

theorem fullSegment_iff (mask : BitVec 16) (ws : List WriteWord) : fullSegment mask ws = true ↔
    ws.length = 8 ∧ (∀ w ∈ ws, w.enables = 0xFF) ∧ mask = 0xFFFF := by
  simp [fullSegment, allEnabled, and_assoc]

theorem samplePlace_eq (backing : Addr) (depth : Nat) (mask : BitVec 16) (a : Addr) (op : Op) :
    ∃ full, samplePlace base backing depth mask a op =
        .sample ⟨backing + BitVec.ofNat 32 ((a.toNat - base * 4096) / 64 * (4 * depth)), depth⟩
          ((a.toNat - base * 4096) % 64 / 8) full ∧
      (full = true ↔ ∃ ws, op = .write ws ∧ ws.length = 8 ∧ (∀ w ∈ ws, w.enables = 0xFF) ∧
        mask = 0xFFFF) := by
  refine ⟨_, rfl, ?_⟩
  cases op with
  | read n => simp
  | write ws => simpa using fullSegment_iff mask ws

theorem slotAddress_toNat (hbase : base * 4096 ≤ a.toNat) :
    (slotAddress base a).toNat = base * 4096 + (a.toNat - base * 4096) / 192 * 192 := by
  have hlt : a.toNat < 2 ^ 32 := a.isLt
  unfold slotAddress apertureStart Config.granuleBytes Config.slotBytes
  rw [BitVec.toNat_ofNat]
  omega

/-- A piece of a request begins at or after its first byte. -/
theorem le_of_mem_pieces {x : Addr × Op} (hx : x ∈ pieces room a op)
    (hnext : room < opLength op → (a + BitVec.ofNat 32 (8 * room)).toNat = a.toNat + 8 * room) :
    a.toNat ≤ x.1.toNat := by
  by_cases hfit : opLength op ≤ room
  · rw [pieces_of_le hfit] at hx
    rw [List.mem_singleton.mp hx]
  · have hgt : room < opLength op := Nat.not_le.mp hfit
    rw [pieces_of_gt hgt] at hx
    simp only [List.mem_cons, List.not_mem_nil, or_false] at hx
    obtain rfl | rfl := hx
    · exact le_refl _
    · dsimp only
      rw [hnext hgt]
      exact Nat.le_add_right _ _

end Sys2Proof.Machine

namespace Sys2Proof.Proofs
open Sys2Proof Sys2Proof.Machine

/-- Settles O13: a line holds two sample blocks, and a slot is longer than a request, so that one cut at the
first boundary is enough. -/
theorem segmentsAreCutAtBoundaries : Obligations.SegmentsAreCutAtBoundaries := by
  rintro n base unit view r hr hbase hunit segs rfl o
  cases view with
  | raw => exact hunit.elim
  | sample backing width depth mask =>
    subst hunit
    have hcut := cutAt_sample hr hbase
    obtain ⟨hlength, hsum, hwords, hhead, heach, hpair⟩ :=
      hcut.segments (samplePlace base backing depth mask)
    refine ⟨hlength, hsum, hwords, hhead, heach, hpair, fun g hg => ?_⟩
    obtain ⟨x, -, rfl⟩ := List.mem_map.mp hg
    refine ⟨rfl, rfl, ?_⟩
    rintro _ rfl
    exact samplePlace_eq backing depth mask x.1 x.2
  | packet clearRead unlisted =>
    subst hunit
    have hcut := cutAt_packet hr hbase
    obtain ⟨hlength, hsum, hwords, hhead, heach, hpair⟩ :=
      hcut.segments fun a _ => .packet (slotAddress base a) (slotWord base a)
    refine ⟨hlength, hsum, hwords, hhead, heach, hpair, fun g hg => ?_⟩
    obtain ⟨x, hx, rfl⟩ := List.mem_map.mp hg
    refine ⟨rfl, rfl, ?_⟩
    rintro _ rfl
    exact ⟨_, rfl, slotAddress_toNat (hbase.trans (le_of_mem_pieces hx hcut.next))⟩

end Sys2Proof.Proofs
end

section
/-! SUPPORT. What the merge table's operations do, case by case, and the turns its entries have left
(R43 to R60). -/

namespace Sys2Proof.Machine

variable {s : State} {ref : SegRef} {p : PendingEntry} {g : Segment} {c : SampleCopy} {b : Block}
  {first : Nat} {full : Bool} {e : MergeEntry}

/-! ### Handing a sample segment (R43, R46) -/

theorem handSample_of_entry (hseg : segmentOf s ref = some (p, g)) (hc : sampleCopy p = some c)
    (hplace : g.place = .sample b first full) (he : mergeOf s b = some e) :
    handSample ref s = park e ref s := by
  simp only [handSample, hseg, hc, hplace, he]

theorem handSample_of_read {n : Nat} (hseg : segmentOf s ref = some (p, g)) (hc : sampleCopy p = some c)
    (hplace : g.place = .sample b first full) (he : mergeOf s b = none) (hop : g.op = .read n) :
    handSample ref s = directRead p b ref s := by
  simp only [handSample, hseg, hc, hplace, he, hop]

theorem handSample_of_full {ws : List WriteWord} (hseg : segmentOf s ref = some (p, g))
    (hc : sampleCopy p = some c) (hplace : g.place = .sample b first true) (he : mergeOf s b = none)
    (hop : g.op = .write ws) : handSample ref s = directWrite p c b ref ws s := by
  simp only [handSample, hseg, hc, hplace, he, hop]

theorem handSample_of_partial {ws : List WriteWord} (hseg : segmentOf s ref = some (p, g))
    (hc : sampleCopy p = some c) (hplace : g.place = .sample b first false) (he : mergeOf s b = none)
    (hop : g.op = .write ws) : handSample ref s = makeEntry p b c.number ref s := by
  simp only [handSample, hseg, hc, hplace, he, hop]

theorem formFull_getElem (width depth : Nat) (words : List Word) (i : Fin 32) :
    (formFull width depth words).stored[i] = (reduceLane width depth (laneOf words i.val)).1 := by
  simp [formFull]

theorem formMerge_getElem (width depth : Nat) (mask : BitVec 16) (first : Nat) (ws : List WriteWord)
    (old : Stored) (i : Fin 32) :
    (formMerge width depth mask first ws old).stored[i] = (mergeLane width depth mask first ws old i).1 := by
  simp [formMerge]

theorem countLanes_eq_card (saturated : Fin 32 → Bool) :
    countLanes saturated = (Finset.univ.filter fun i => saturated i = true).card := by
  have hdecide : (fun i => decide (saturated i = true)) = saturated := by
    funext i
    simp
  exact (congrArg (fun f => ((List.finRange 32).filter f).length) hdecide).symm

/-! ### The segments of a request that is taken (R59) -/

theorem handSamples_of_one (h : p.segments = [g]) (s : State) :
    handSamples p s = mergeRun (handSample ⟨p.id, 0⟩ s) := by
  simp only [handSamples, h]

theorem handSamples_of_apart {g' : Segment} (h : p.segments = [g, g']) (hc : sampleCopy p = some c)
    (hplace : g.place = .sample b first full) (he : mergeOf s b = none) :
    handSamples p s = mergeRun (handSample ⟨p.id, 1⟩ (handSample ⟨p.id, 0⟩ s)) := by
  simp only [handSamples, h, hc, hplace, he]

theorem handSamples_of_parked {g' : Segment} (h : p.segments = [g, g']) (hc : sampleCopy p = some c)
    (hplace : g.place = .sample b first full) (he : mergeOf s b = some e) :
    handSamples p s =
      mergeRun (claimSecond p c.number g' (park e ⟨p.id, 0⟩ (setWork ⟨p.id, 1⟩ .unhanded s))) := by
  simp only [handSamples, h, hc, hplace, he]

theorem claimSecond_of_entry {n : ApertureNo} (hplace : g.place = .sample b first full)
    (he : mergeOf s b = some e) :
    claimSecond p n g s = putMerge { e with claims := e.claims ++ [p.id] } s := by
  simp only [claimSecond, hplace, he]

theorem claimSecond_of_partial {n : ApertureNo} {ws : List WriteWord}
    (hplace : g.place = .sample b first false) (hop : g.op = .write ws) (he : mergeOf s b = none) :
    claimSecond p n g s = handBlockRead p.request b (.merge b)
      { s with mergeTable := s.mergeTable ++ [newMerge b n none [p.id] p.id] } := by
  simp only [claimSecond, hplace, hop, he]

theorem claimSecond_of_read {n : ApertureNo} (hplace : g.place = .sample b first full)
    (he : mergeOf s b = none) (hop : opKind g.op = .read) : claimSecond p n g s = s := by
  obtain ⟨k, hk⟩ : ∃ k, g.op = .read k := by
    cases h : g.op with
    | read k => exact ⟨k, rfl⟩
    | write ws => rw [h] at hop; cases hop
  simp only [claimSecond, hplace, he, hk]

theorem claimSecond_of_full {n : ApertureNo} (hplace : g.place = .sample b first true)
    (he : mergeOf s b = none) : claimSecond p n g s = s := by
  cases hop : g.op <;> simp only [claimSecond, hplace, he, hop]

/-! ### An entry carries out its item (R56, R58) -/

theorem entryOf_of_segmentOf (hseg : segmentOf s ref = some (p, g)) : entryOf s ref.id = some p := by
  unfold segmentOf at hseg
  cases he : entryOf s ref.id with
  | none => rw [he] at hseg; cases hseg
  | some x =>
    rw [he] at hseg
    cases hg : x.segments[ref.index]? with
    | none => simp [hg] at hseg
    | some k => simp [hg] at hseg; rw [hseg.1]

theorem fetchMerge_of_entry {id : Nat} (h : entryOf s id = some p) :
    fetchMerge e id s = handBlockRead p.request e.block (.merge e.block)
      (putMerge { e with state := .fetching, copy := none, io := freshIo e.block, fetchFor := some id } s) := by
  simp only [fetchMerge, h]

theorem carryOut_of_read {n : Nat} {held : Stored} (hseg : segmentOf s ref = some (p, g))
    (hc : sampleCopy p = some c) (hplace : g.place = .sample b first full) (hop : g.op = .read n)
    (hcopy : e.copy = some held) :
    carryOut e ref s = finishSegment ref .done (expandWords c.width e.block.depth held first n)
      (putMerge { e with state := .held, item := none } s) := by
  simp only [carryOut, hseg, hc, hplace, hop, hcopy]

theorem carryOut_of_uncopied_read {n : Nat} (hseg : segmentOf s ref = some (p, g))
    (hc : sampleCopy p = some c) (hplace : g.place = .sample b first full) (hop : g.op = .read n)
    (hcopy : e.copy = none) : carryOut e ref s = fetchMerge e ref.id s := by
  simp only [carryOut, hseg, hc, hplace, hop, hcopy]

theorem carryOut_of_full {ws : List WriteWord} (hseg : segmentOf s ref = some (p, g))
    (hc : sampleCopy p = some c) (hplace : g.place = .sample b first true) (hop : g.op = .write ws) :
    carryOut e ref s =
      writeMerge e p (formFull c.width e.block.depth (ws.map (·.data))).stored
        (addSaturated c.number (formFull c.width e.block.depth (ws.map (·.data))).saturated s) := by
  simp only [carryOut, hseg, hc, hplace, hop]

theorem carryOut_of_partial {ws : List WriteWord} {held : Stored} (hseg : segmentOf s ref = some (p, g))
    (hc : sampleCopy p = some c) (hplace : g.place = .sample b first false) (hop : g.op = .write ws)
    (hcopy : e.copy = some held) :
    carryOut e ref s =
      writeMerge e p (formMerge c.width e.block.depth c.mask first ws held).stored
        (addSaturated c.number (formMerge c.width e.block.depth c.mask first ws held).saturated s) := by
  simp only [carryOut, hseg, hc, hplace, hop, hcopy]

theorem carryOut_of_uncopied_partial {ws : List WriteWord} (hseg : segmentOf s ref = some (p, g))
    (hc : sampleCopy p = some c) (hplace : g.place = .sample b first false) (hop : g.op = .write ws)
    (hcopy : e.copy = none) : carryOut e ref s = fetchMerge e ref.id s := by
  simp only [carryOut, hseg, hc, hplace, hop, hcopy]

theorem addSaturated_mergeTable (i : ApertureNo) (n : Nat) (s : State) :
    (addSaturated i n s).mergeTable = s.mergeTable := (addSaturated_tableKept i n s).1

/-! ### An entry's turn (R58, R60) -/

theorem mergeReady_iff (e : MergeEntry) : mergeReady e = true ↔
    e.state = .held ∧ e.item = none ∧ (e.waits ≠ [] ∨ e.claims = [] ∨ e.copy = none) := by
  obtain ⟨block, aperture, state, item, copy, waits, claims, io, fetchFor⟩ := e
  cases item <;> cases copy <;> cases waits <;> cases claims <;> simp [mergeReady]

theorem mergeTurn_of_waits {rest : List SegRef} (h : e.waits = ref :: rest) (s : State) :
    mergeTurn e s = handSecond ref (carryOut { e with waits := rest, item := some ref } ref s) := by
  simp only [mergeTurn, h]

theorem mergeTurn_of_idle (hw : e.waits = []) (hc : e.claims = []) (s : State) :
    mergeTurn e s = freeMerge e.block s := by
  simp only [mergeTurn, hw, hc]

theorem mergeTurn_of_claims {id : Nat} {rest : List Nat} (hw : e.waits = []) (hc : e.claims = id :: rest)
    (s : State) : mergeTurn e s = fetchMerge e id s := by
  simp only [mergeTurn, hw, hc]

theorem handSecond_of_index (h : ref.index ≠ 0) (s : State) : handSecond ref s = s := by
  unfold handSecond
  dsimp only
  split
  · exact absurd (by assumption) h
  · rfl

theorem handSecond_of_handed (hseg : segmentOf s ⟨ref.id, 1⟩ = some (p, g))
    (h : ¬ (g.work = .unhanded ∧ g.state = .inProgress)) : handSecond ref s = s := by
  by_cases hi : ref.index = 0
  · simp only [handSecond, hi, hseg, if_neg h]
  · exact handSecond_of_index hi s

theorem handSecond_of_claim (hseg : segmentOf s ⟨ref.id, 1⟩ = some (p, g)) (hi : ref.index = 0)
    (hw : g.work = .unhanded) (hst : g.state = .inProgress) (he : claimOf s ref.id = some e) :
    handSecond ref s = park { e with claims := e.claims.erase ref.id } ⟨ref.id, 1⟩ s := by
  simp only [handSecond, hi, hseg, hw, hst, and_self, if_true, he]

theorem handSecond_of_unclaimed (hseg : segmentOf s ⟨ref.id, 1⟩ = some (p, g)) (hi : ref.index = 0)
    (hw : g.work = .unhanded) (hst : g.state = .inProgress) (he : claimOf s ref.id = none) :
    handSecond ref s = handSample ⟨ref.id, 1⟩ s := by
  simp only [handSecond, hi, hseg, hw, hst, and_self, if_true, he]

theorem claimOf_eq_none_of {id : Nat} (h : ∀ m ∈ s.mergeTable, id ∉ m.claims) : claimOf s id = none := by
  refine List.find?_eq_none.mpr fun m hm => ?_
  simpa using h m hm

theorem claimOf_of_split {id : Nat} {before after : List MergeEntry}
    (hs : s.mergeTable = before ++ e :: after) (hbefore : ∀ m ∈ before, id ∉ m.claims)
    (he : id ∈ e.claims) : claimOf s id = some e := by
  unfold claimOf
  rw [List.find?_eq_some_iff_append]
  exact ⟨by simpa using he, before, after, hs, fun m hm => by simpa using hbefore m hm⟩

theorem mergeSettle_of_rest (h : ∀ m ∈ s.mergeTable, mergeReady m = false) (n : Nat) :
    mergeSettle n s = s := by
  cases n with
  | zero => rfl
  | succ n =>
    have hnone : s.mergeTable.find? mergeReady = none :=
      List.find?_eq_none.mpr fun m hm => by simp [h m hm]
    simp only [mergeSettle, hnone]

theorem mergeSettle_of_ready (h : s.mergeTable.find? mergeReady = some e) (n : Nat) :
    mergeSettle (n + 1) s = mergeSettle n (mergeTurn e s) := by
  simp only [mergeSettle, h]

/-! ### The turns that are left (R58)

A segment that waits takes a turn when its entry takes it, and a first segment can make its second wait
in turn; a HELD entry takes one turn more when it fetches or is freed. So the turns that are left bound how
often the entries of a table can act, and every turn lessens them. -/

/-- The turns a waiting segment can ask for: its own, and its request's second segment's. -/
def waitTurns (r : SegRef) : Nat := if r.index = 0 then 2 else 1

/-- The turns an entry can ask for. -/
def entryTurns (m : MergeEntry) : Nat := (m.waits.map waitTurns).sum + if m.state = .held then 1 else 0

/-- The turns a table can ask for. -/
def turnsLeft (table : List MergeEntry) : Nat := (table.map entryTurns).sum

theorem waitTurns_pos (r : SegRef) : 1 ≤ waitTurns r := by
  unfold waitTurns
  split <;> decide

theorem waitTurns_le (r : SegRef) : waitTurns r ≤ 2 := by
  unfold waitTurns
  split <;> decide

theorem turnsLeft_append (l l' : List MergeEntry) : turnsLeft (l ++ l') = turnsLeft l + turnsLeft l' := by
  simp [turnsLeft]

theorem turnsLeft_cons (m : MergeEntry) (l : List MergeEntry) :
    turnsLeft (m :: l) = entryTurns m + turnsLeft l := by
  simp [turnsLeft]

theorem entryTurns_le (m : MergeEntry) : entryTurns m ≤ (m.waits.map waitTurns).sum + 1 := by
  unfold entryTurns
  split <;> omega

theorem putIn_of_ne {x : MergeEntry} {l : List MergeEntry} (h : ∀ m ∈ l, m.block ≠ x.block) :
    putIn x l = l := by
  unfold putIn
  exact (List.map_congr_left fun m hm => if_neg (h m hm)).trans (List.map_id l)

/-- In a table whose blocks differ, new contents take the place of one entry (R51). -/
theorem turnsLeft_putIn {x : MergeEntry} {table : List MergeEntry} (hn : (table.map (·.block)).Nodup)
    (he : e ∈ table) (hb : x.block = e.block) :
    turnsLeft (putIn x table) + entryTurns e = turnsLeft table + entryTurns x := by
  obtain ⟨before, after, rfl⟩ := List.append_of_mem he
  rw [List.map_append, List.map_cons, List.nodup_append, List.nodup_cons] at hn
  obtain ⟨-, ⟨hafter, -⟩, hbefore⟩ := hn
  have hb1 : putIn x before = before := putIn_of_ne fun m hm => by
    rw [hb]
    exact hbefore m.block (List.mem_map_of_mem hm) e.block List.mem_cons_self
  have hb2 : putIn x after = after := putIn_of_ne fun m hm heq =>
    hafter (hb ▸ heq ▸ List.mem_map_of_mem hm)
  have hput : putIn x (before ++ e :: after) = before ++ x :: after := by
    calc putIn x (before ++ e :: after) = putIn x before ++ x :: putIn x after := by
          simp [putIn, hb]
      _ = before ++ x :: after := by rw [hb1, hb2]
  rw [hput, turnsLeft_append, turnsLeft_append, turnsLeft_cons, turnsLeft_cons]
  omega

/-- A table whose blocks differ, with a bound on the turns it can ask for. -/
def TurnsWithin (n : Nat) (s : State) : Prop :=
  (s.mergeTable.map (·.block)).Nodup ∧ turnsLeft s.mergeTable ≤ n

theorem TurnsWithin.put {n k : Nat} {t : State} {x : MergeEntry} (h : TurnsWithin n s) (he : e ∈ s.mergeTable)
    (hb : x.block = e.block) (ht : t.mergeTable = putIn x s.mergeTable)
    (hk : entryTurns x + n ≤ entryTurns e + k) : TurnsWithin k t := by
  obtain ⟨hn, hle⟩ := h
  have hturns := turnsLeft_putIn hn he hb
  refine ⟨?_, ?_⟩
  · rw [ht, putIn_blocks]; exact hn
  · rw [ht]; omega

theorem entryTurns_park (e : MergeEntry) (r : SegRef) :
    entryTurns { e with waits := e.waits ++ [r] } = entryTurns e + waitTurns r := by
  simp [entryTurns]
  omega

/-- A second segment that is handed asks for one turn at most (R43, R60). -/
theorem TurnsWithin.handSample {n id : Nat} (h : TurnsWithin n s) :
    TurnsWithin (n + 1) (handSample ⟨id, 1⟩ s) := by
  have hle : turnsLeft s.mergeTable ≤ n + 1 := h.2.trans (Nat.le_succ n)
  obtain ⟨ht, -⟩ | ⟨e, he, ht, -⟩ | ⟨ht, -⟩ | ⟨_, _, b, _, _, _, -, -, -, -, hnone, ht, -⟩ :=
    handSample_effect ⟨id, 1⟩ s
  · exact ⟨ht ▸ h.1, ht ▸ hle⟩
  · refine h.put (x := { e with waits := e.waits ++ [⟨id, 1⟩] }) he rfl ht ?_
    rw [entryTurns_park]
    simp [waitTurns]
    omega
  · exact ⟨ht ▸ h.1, ht ▸ hle⟩
  · refine ⟨?_, ?_⟩
    · rw [ht, List.map_append, List.nodup_append]
      refine ⟨h.1, List.nodup_singleton _, ?_⟩
      have hfresh : ∀ m ∈ s.mergeTable, m.block ≠ b := by
        simpa [mergeOf] using List.find?_eq_none.mp hnone
      simpa [newMerge] using hfresh
    · rw [ht, turnsLeft_append, turnsLeft_cons]
      simpa [turnsLeft, entryTurns, newMerge] using hle

theorem TurnsWithin.mono {n k : Nat} (h : TurnsWithin n s) (hk : n ≤ k) : TurnsWithin k s :=
  ⟨h.1, h.2.trans hk⟩

theorem TurnsWithin.handSecond {n : Nat} (h : TurnsWithin n s) :
    TurnsWithin (n + (waitTurns ref - 1)) (handSecond ref s) := by
  by_cases hi : ref.index = 0
  · have hturns : waitTurns ref - 1 = 1 := by simp [waitTurns, hi]
    rw [hturns]
    unfold Machine.handSecond
    dsimp only
    split
    case h_1 =>
      split
      · split
        case h_1 e he =>
          refine h.put (x := { e with claims := e.claims.erase ref.id, waits := e.waits ++ [⟨ref.id, 1⟩] })
            (mem_of_claimOf he).1 rfl rfl ?_
          have hpark : entryTurns { e with claims := e.claims.erase ref.id, waits := e.waits ++ [⟨ref.id, 1⟩] }
              = entryTurns e + waitTurns ⟨ref.id, 1⟩ := entryTurns_park e ⟨ref.id, 1⟩
          rw [hpark]
          simp [waitTurns]
          omega
        case h_2 => exact h.handSample
      · exact h.mono (Nat.le_succ n)
    case h_2 => exact h.mono (Nat.le_succ n)
  · rw [handSecond_of_index hi]
    exact h.mono (Nat.le_add_right _ _)

/-- The turn of an entry that has something to do lessens the turns that are left (R58). -/
theorem TurnsWithin.mergeTurn {n : Nat} (h : TurnsWithin (n + 1) s) (he : e ∈ s.mergeTable)
    (hready : mergeReady e = true) : TurnsWithin n (mergeTurn e s) := by
  obtain ⟨hheld, -, hrest⟩ := (mergeReady_iff e).mp hready
  have hturns : entryTurns e = (e.waits.map waitTurns).sum + 1 := by simp [entryTurns, hheld]
  cases hw : e.waits with
  | cons r rest =>
    rw [mergeTurn_of_waits hw]
    obtain ⟨x, hxb, hxw, -, ht, -⟩ := carryOut_effect { e with waits := rest, item := some r } r s
    have hx : entryTurns x ≤ (rest.map waitTurns).sum + 1 := by
      have := entryTurns_le x
      rwa [hxw] at this
    rw [hw, List.map_cons, List.sum_cons] at hturns
    have hpos := waitTurns_pos r
    by_cases hone : waitTurns r ≤ n + 1
    · have hcarried : TurnsWithin (n + 1 - waitTurns r)
          (carryOut { e with waits := rest, item := some r } r s) :=
        h.put he hxb ht (by omega)
      exact hcarried.handSecond.mono (by omega)
    · have hsum : entryTurns e ≤ turnsLeft s.mergeTable :=
        List.single_le_sum (by simp) _ (List.mem_map_of_mem he)
      have := h.2
      omega
  | nil =>
    rw [hw] at hturns
    cases hc : e.claims with
    | nil =>
      rw [mergeTurn_of_idle hw hc]
      obtain ⟨hn, hle⟩ := h
      refine ⟨hn.sublist (List.filter_sublist.map _), ?_⟩
      have hdrop : turnsLeft (freeMerge e.block s).mergeTable + entryTurns e ≤ turnsLeft s.mergeTable := by
        obtain ⟨before, after, hsplit⟩ := List.append_of_mem he
        have hsub : ((freeMerge e.block s).mergeTable).Sublist (before ++ after) := by
          have hfree : (freeMerge e.block s).mergeTable =
              (before ++ after).filter fun m => m.block != e.block := by
            simp [freeMerge, hsplit]
          rw [hfree]
          exact List.filter_sublist
        have hsum := (hsub.map entryTurns).sum_le_sum (by simp)
        simp only [turnsLeft, hsplit, List.map_append, List.sum_append, List.map_cons, List.sum_cons] at hsum ⊢
        omega
      simp at hturns
      omega
    | cons id rest =>
      rw [mergeTurn_of_claims hw hc]
      obtain ⟨x, hxb, hxw, -, hxs, ht, -⟩ := fetchMerge_effect e id s
      refine h.put he hxb ht ?_
      have hx : entryTurns x = 0 := by simp [entryTurns, hxw, hw, hxs]
      simp at hturns
      omega

theorem rest_of_turnsLeft (h : turnsLeft s.mergeTable = 0) : ∀ m ∈ s.mergeTable, mergeReady m = false := by
  intro m hm
  have hzero : entryTurns m ≤ turnsLeft s.mergeTable := List.single_le_sum (by simp) _ (List.mem_map_of_mem hm)
  cases hready : mergeReady m with
  | false => rfl
  | true =>
    obtain ⟨hheld, -⟩ := (mergeReady_iff m).mp hready
    simp [entryTurns, hheld] at hzero
    omega

theorem mergeSettle_rests {n : Nat} (h : TurnsWithin n s) :
    ∀ m ∈ (mergeSettle n s).mergeTable, mergeReady m = false := by
  induction n generalizing s with
  | zero => exact rest_of_turnsLeft (Nat.le_zero.mp h.2)
  | succ n ih =>
    cases hf : s.mergeTable.find? mergeReady with
    | none =>
      have hrest : ∀ m ∈ s.mergeTable, mergeReady m = false := by
        simpa using List.find?_eq_none.mp hf
      rw [mergeSettle_of_rest hrest]
      exact hrest
    | some e =>
      rw [mergeSettle_of_ready hf]
      exact ih (h.mergeTurn (List.mem_of_find?_eq_some hf) (List.find?_some hf))

theorem turnsLeft_le (table : List MergeEntry) :
    turnsLeft table ≤ 2 * (table.map fun m => m.waits.length).sum + table.length := by
  have hwaits : ∀ l : List SegRef, (l.map waitTurns).sum ≤ 2 * l.length := fun l => by
    induction l with
    | nil => simp
    | cons r rest ih =>
      have := waitTurns_le r
      simp only [List.map_cons, List.sum_cons, List.length_cons]
      omega
  induction table with
  | nil => simp [turnsLeft]
  | cons m rest ih =>
    have h1 := entryTurns_le m
    have h2 := hwaits m.waits
    rw [turnsLeft_cons]
    simp only [List.map_cons, List.sum_cons, List.length_cons]
    omega

/-- The fuel of `mergeRun` is never short. -/
theorem mergeRun_rests (hn : (s.mergeTable.map (·.block)).Nodup)
    (hw : (s.mergeTable.map fun m => m.waits.length).sum ≤ s.pendingList.length) :
    ∀ m ∈ (mergeRun s).mergeTable, mergeReady m = false := by
  refine mergeSettle_rests ⟨hn, ?_⟩
  have := turnsLeft_le s.mergeTable
  omega

end Sys2Proof.Machine

namespace Sys2Proof.Proofs
open Sys2Proof Sys2Proof.Machine

/-- Settles O17: a sample segment parks, goes directly or makes an entry; entries act on their items; and the
turns that are left bound how long they act. -/
theorem writeSegmentGoesOneOfFourWays : Obligations.WriteSegmentGoesOneOfFourWays := by
  rintro s table rfl put rfl fetching rfl
  refine ⟨fun b => rfl, ?_, ?_, ?_, countLanes_eq_card, ?_, ?_, fun e => ⟨mergeReady_iff e, ?_, ?_, ?_⟩,
    ?_, ?_, ?_, ?_⟩
  · rintro ref change rfl
    exact ⟨fun w => rfl, fun st data => rfl⟩
  · intro ref p g c b first full hseg hc hplace
    refine ⟨fun e he => ?_, fun n he hop => ?_, fun ws he hop hf => ?_, fun ws he hop hf => ?_⟩
    · obtain ⟨-, rfl⟩ := mem_of_mergeOf he
      rw [handSample_of_entry hseg hc hplace he]
      rfl
    · rw [handSample_of_read hseg hc hplace he hop]
      rfl
    · subst hf
      rw [handSample_of_full hseg hc hplace he hop]
      exact ⟨_, formFull_getElem _ _ _, rfl⟩
    · subst hf
      rw [handSample_of_partial hseg hc hplace he hop]
      rfl
  · rintro n k a t rfl rfl
    rfl
  · intro p c g h b first full hc hplace lower upper hlower hupper
    subst hlower hupper
    refine ⟨fun hp => handSamples_of_one hp s, fun hp he => handSamples_of_apart hp hc hplace he, ?_⟩
    rintro e hp he t rfl d f whole hplace'
    rw [handSamples_of_parked hp hc hplace he]
    refine ⟨fun x hx => ?_, fun ws hx hop hw => ?_, fun hx hw => ?_⟩
    · exact congrArg mergeRun (claimSecond_of_entry hplace' hx)
    · subst hw
      exact congrArg mergeRun (claimSecond_of_partial hplace' hop hx)
    · refine congrArg mergeRun ?_
      obtain hop | rfl := hw
      · exact claimSecond_of_read hplace' hx hop
      · exact claimSecond_of_full hplace' hx
  · rintro e ref p g c b first full hseg hc hplace depth rfl fetched rfl written rfl
    have hfetch : fetchMerge e ref.id s = _ := fetchMerge_of_entry (entryOf_of_segmentOf hseg)
    refine ⟨fun n held hop hcopy => ?_, fun n hop hcopy => ?_, fun ws hop hf => ?_,
      fun ws held hop hf hcopy => ?_, fun ws hop hf hcopy => ?_⟩
    · rw [carryOut_of_read hseg hc hplace hop hcopy]
      rfl
    · rw [carryOut_of_uncopied_read hseg hc hplace hop hcopy, hfetch]
      rfl
    · subst hf
      refine ⟨_, formFull_getElem _ _ _, ?_⟩
      rintro t rfl
      rw [carryOut_of_full hseg hc hplace hop, writeMerge, putMerge, addSaturated_mergeTable]
      rfl
    · subst hf
      refine ⟨_, formMerge_getElem _ _ _ _ _ _, ?_⟩
      rintro t rfl
      rw [carryOut_of_partial hseg hc hplace hop hcopy, writeMerge, putMerge, addSaturated_mergeTable]
      rfl
    · subst hf
      rw [carryOut_of_uncopied_partial hseg hc hplace hop hcopy, hfetch]
      rfl
  · exact fun ref rest hw => mergeTurn_of_waits hw s
  · intro hw hc
    rw [mergeTurn_of_idle hw hc, freeMerge]
    congr 1
    refine List.filter_congr fun m _ => ?_
    simp [bne, beq_eq_decide]
  · intro id rest p hw hc hp
    rw [mergeTurn_of_claims hw hc, fetchMerge_of_entry hp]
    rfl
  · rintro ref p g second rfl hseg
    refine ⟨fun hno => ?_, fun hi hw hst => ⟨fun hnone => ?_, fun before e after hs hbefore he => ?_⟩⟩
    · obtain hi | hw | hst := hno
      · exact handSecond_of_index hi s
      · exact handSecond_of_handed hseg fun h => hw h.1
      · exact handSecond_of_handed hseg fun h => hst h.2
    · exact handSecond_of_unclaimed hseg hi hw hst (claimOf_eq_none_of hnone)
    · rw [handSecond_of_claim hseg hi hw hst (claimOf_of_split hs hbefore he)]
      rfl
  · exact fun h => mergeSettle_of_rest h _
  · intro before e after n hs hbefore he
    refine mergeSettle_of_ready ?_ n
    rw [List.find?_eq_some_iff_append]
    exact ⟨he, before, after, hs, fun m hm => by simp [hbefore m hm]⟩
  · exact mergeRun_rests

end Sys2Proof.Proofs
end

section
/-! SUPPORT. Bits of packed blocks, of reduced and expanded lanes and of a merge (R35 to R46). -/

namespace Sys2Proof.Machine

/-! ### Packing (R37) -/

theorem packNat_testBit (depth : Nat) (stored : Stored) (i : Fin 32) {b : Nat} (hb : b < depth) :
    (packNat depth stored).testBit (depth * i.val + b) = stored[i].getLsbD b := by
  have hlt : ∀ x ∈ stored.toList.map (fun v => v.toNat % 2 ^ depth), x < 2 ^ depth := by
    intro x hx
    obtain ⟨v, -, rfl⟩ := List.mem_map.mp hx
    exact Nat.mod_lt _ (Nat.two_pow_pos depth)
  unfold packNat
  rw [testBit_foldr depth _ hlt _ _ hb]
  have hget : (stored.toList.map fun v => v.toNat % 2 ^ depth).getD i.val 0
      = stored[i].toNat % 2 ^ depth := by
    simp [List.getD_eq_getElem?_getD]
  rw [hget, Nat.testBit_mod_two_pow, decide_eq_true hb, Bool.true_and]
  rfl

theorem packWords_getLsbD (depth : Nat) (stored : Stored) {m : Nat} (hm : m < 64 * (depth / 2)) :
    ((packWords depth stored).getD (m / 64) 0).getLsbD (m % 64) = (packNat depth stored).testBit m := by
  have hword : (packWords depth stored).getD (m / 64) 0
      = BitVec.ofNat 64 (packNat depth stored >>> (64 * (m / 64))) := by
    have hj : m / 64 < depth / 2 := by omega
    simp [packWords, List.getD_eq_getElem?_getD, List.getElem?_range hj]
  rw [hword, BitVec.getLsbD_ofNat, Nat.testBit_shiftRight, Nat.div_add_mod,
    decide_eq_true (Nat.mod_lt m (by decide)), Bool.true_and]

theorem packWords_at {depth : Nat} (hd : depth = 8 ∨ depth = 10 ∨ depth = 12) (stored : Stored)
    (i : Fin 32) {b : Nat} (hb : b < depth) :
    ((packWords depth stored).getD ((depth * i.val + b) / 64) 0).getLsbD ((depth * i.val + b) % 64)
      = stored[i].getLsbD b := by
  have hm : depth * i.val + b < 64 * (depth / 2) := by
    have hi := i.isLt
    obtain rfl | rfl | rfl := hd <;> omega
  rw [packWords_getLsbD depth stored hm, packNat_testBit depth stored i hb]

theorem getLsbD_of_toNat_lt {n w : Nat} {x : BitVec w} (h : x.toNat < 2 ^ n) {b : Nat} (hb : n ≤ b) :
    x.getLsbD b = false :=
  Nat.testBit_lt_two_pow (h.trans_le (Nat.pow_le_pow_right (by decide) hb))

theorem unpackWords_packWords {depth : Nat} (hd : depth = 8 ∨ depth = 10 ∨ depth = 12) (stored : Stored)
    (h : ∀ i : Fin 32, stored[i].toNat < 2 ^ depth) : unpackWords depth (packWords depth stored) = stored := by
  have hlane : ∀ i : Fin 32, (unpackWords depth (packWords depth stored))[i] = stored[i] := fun i => by
    refine BitVec.eq_of_getLsbD_eq fun b _ => ?_
    rw [getLsbD_unpackWords depth hd]
    by_cases hb : b < depth
    · rw [packWords_at hd stored i hb, decide_eq_true hb, Bool.true_and]
    · rw [decide_eq_false hb, Bool.false_and, getLsbD_of_toNat_lt (h i) (Nat.le_of_not_lt hb)]
  exact Vector.ext fun i hi => hlane ⟨i, hi⟩

/-! ### Depth reduction and expansion (R39, R41) -/

theorem reduceLane_of_eq {width : Nat} (hw : width ≤ 12) (lane : BitVec 16) :
    (reduceLane width width lane).1.toNat = lane.toNat % 2 ^ width ∧
      (reduceLane width width lane).2 = false := by
  have hv : lane.toNat % 2 ^ width < 2 ^ 12 :=
    (Nat.mod_lt _ (Nat.two_pow_pos width)).trans_le (Nat.pow_le_pow_right (by decide) hw)
  simp only [reduceLane, le_refl, if_true, BitVec.toNat_ofNat, and_true]
  exact Nat.mod_eq_of_lt hv

theorem reduceLane_of_lt {width depth : Nat} (hd : depth ≤ 12) (hlt : depth < width) (lane : BitVec 16) :
    (reduceLane width depth lane).1.toNat =
        min (2 ^ depth - 1) ((lane.toNat % 2 ^ width + 2 ^ (width - depth - 1)) / 2 ^ (width - depth)) ∧
      ((reduceLane width depth lane).2 = true ↔
        2 ^ width - 2 ^ (width - depth - 1) ≤ lane.toNat % 2 ^ width) := by
  have hv : lane.toNat % 2 ^ width < 2 ^ width := Nat.mod_lt _ (Nat.two_pow_pos width)
  have hmax : 2 ^ depth ≤ 2 ^ 12 := Nat.pow_le_pow_right (by decide) hd
  have hone := Nat.two_pow_pos depth
  have hpow : 2 ^ width = 2 ^ depth * 2 ^ (width - depth) := by rw [← Nat.pow_add]; congr 1; omega
  have hhigh : 2 ^ depth - 1 < (lane.toNat % 2 ^ width + 2 ^ (width - depth - 1)) / 2 ^ (width - depth) ↔
      2 ^ width - 2 ^ (width - depth - 1) ≤ lane.toNat % 2 ^ width := by
    rw [Nat.sub_lt_iff_lt_add hone, Nat.lt_add_one_iff, Nat.le_div_iff_mul_le (Nat.two_pow_pos _),
      ← hpow, Nat.sub_le_iff_le_add]
  simp only [reduceLane, if_neg (Nat.not_le.mpr hlt)]
  split
  case isTrue hover =>
    refine ⟨?_, iff_of_true rfl (hhigh.mp hover)⟩
    rw [BitVec.toNat_ofNat, Nat.mod_eq_of_lt (by omega), Nat.min_eq_left hover.le]
  case isFalse hunder =>
    refine ⟨?_, iff_of_false Bool.false_ne_true fun h => hunder (hhigh.mpr h)⟩
    rw [BitVec.toNat_ofNat, Nat.mod_eq_of_lt (by omega), Nat.min_eq_right (Nat.le_of_not_lt hunder)]

theorem expandLane_toNat {width depth : Nat} (hw : width ≤ 16) (hle : depth ≤ width) {v : BitVec 12}
    (hv : v.toNat < 2 ^ depth) : (expandLane width depth v).toNat = v.toNat * 2 ^ (width - depth) := by
  have hpow : 2 ^ width = 2 ^ depth * 2 ^ (width - depth) := by rw [← Nat.pow_add]; congr 1; omega
  have hlt : v.toNat * 2 ^ (width - depth) < 2 ^ width := by
    rw [hpow]
    exact Nat.mul_lt_mul_of_pos_right hv (Nat.two_pow_pos _)
  rw [expandLane, BitVec.toNat_ofNat,
    Nat.mod_eq_of_lt (hlt.trans_le (Nat.pow_le_pow_right (by decide) hw))]

/-- Depth reduction undoes expansion (R41). -/
theorem reduceLane_expandLane {width depth : Nat} (hw : width ≤ 16) (hd : depth ≤ 12) (hle : depth ≤ width)
    {v : BitVec 12} (hv : v.toNat < 2 ^ depth) :
    reduceLane width depth (expandLane width depth v) = (v, false) := by
  have hpow : 2 ^ width = 2 ^ depth * 2 ^ (width - depth) := by rw [← Nat.pow_add]; congr 1; omega
  have hlt : v.toNat * 2 ^ (width - depth) < 2 ^ width := by
    rw [hpow]
    exact Nat.mul_lt_mul_of_pos_right hv (Nat.two_pow_pos _)
  have hlane : (expandLane width depth v).toNat % 2 ^ width = v.toNat * 2 ^ (width - depth) := by
    rw [expandLane_toNat hw hle hv, Nat.mod_eq_of_lt hlt]
  refine Prod.ext (BitVec.eq_of_toNat_eq ?_) ?_
  · obtain rfl | hlt' := hle.eq_or_lt
    · rw [(reduceLane_of_eq hd _).1, hlane]
      simp
    · have hhalf : 2 ^ (width - depth - 1) < 2 ^ (width - depth) :=
        Nat.pow_lt_pow_right (by decide) (by omega)
      rw [(reduceLane_of_lt hd hlt' _).1, hlane, Nat.mul_comm, Nat.mul_add_div (Nat.two_pow_pos _),
        Nat.div_eq_of_lt hhalf]
      exact Nat.min_eq_right (Nat.le_sub_one_of_lt hv)
  · obtain rfl | hlt' := hle.eq_or_lt
    · exact (reduceLane_of_eq hd _).2
    · rw [Bool.eq_false_iff, Ne, (reduceLane_of_lt hd hlt' _).2, hlane]
      have hhalf : 2 ^ (width - depth) = 2 * 2 ^ (width - depth - 1) := by
        rw [← Nat.pow_succ']; congr 1; omega
      have hpos := Nat.two_pow_pos (width - depth - 1)
      have hroom : (v.toNat + 1) * 2 ^ (width - depth) ≤ 2 ^ width := by
        rw [hpow]
        exact Nat.mul_le_mul_right _ hv
      rw [Nat.succ_mul] at hroom
      omega

/-! ### Lanes (R35, R46) -/

theorem laneOf_getLsbD (words : List Word) (i : Nat) {b : Nat} (hb : b < 16) :
    (laneOf words i).getLsbD b = (words.getD (i / 4) 0).getLsbD (16 * (i % 4) + b) := by
  simp [laneOf, BitVec.getLsbD_ushiftRight, hb]

theorem wordOfLanes_getLsbD (l0 l1 l2 l3 : BitVec 16) (q : Nat) :
    (wordOfLanes l0 l1 l2 l3).getLsbD q =
      if q < 16 then l0.getLsbD q else if q < 32 then l1.getLsbD (q - 16)
      else if q < 48 then l2.getLsbD (q - 32) else l3.getLsbD (q - 48) := by
  have happend : (wordOfLanes l0 l1 l2 l3).getLsbD q =
      BitVec.getLsbD (w := 16 + 16 + 16 + 16) (l3 ++ l2 ++ l1 ++ l0) q := rfl
  have h1 : q - 16 < 16 ↔ q < 32 := by omega
  have h2 : q - 32 < 16 ↔ q < 48 := by omega
  rw [happend, BitVec.getLsbD_append, BitVec.getLsbD_append, BitVec.getLsbD_append]
  simp only [h1, h2, Nat.sub_sub, Nat.reduceAdd]

theorem laneOf_wordOfLanes (l0 l1 l2 l3 : BitVec 16) (words : List Word) {k l : Nat}
    (hk : words[k]? = some (wordOfLanes l0 l1 l2 l3)) (hl : l < 4) :
    laneOf words (4 * k + l) = [l0, l1, l2, l3].getD l 0 := by
  have hdiv : (4 * k + l) / 4 = k := by omega
  have hmod : (4 * k + l) % 4 = l := by omega
  refine BitVec.eq_of_getLsbD_eq fun b hb => ?_
  rw [laneOf_getLsbD _ _ hb, hdiv, hmod, List.getD_eq_getElem?_getD, hk, Option.getD_some,
    wordOfLanes_getLsbD]
  obtain rfl | rfl | rfl | rfl : l = 0 ∨ l = 1 ∨ l = 2 ∨ l = 3 := by omega
  · rw [if_pos (by omega), Nat.mul_zero, Nat.zero_add]; rfl
  · rw [if_neg (by omega), if_pos (by omega), Nat.mul_one, Nat.add_sub_cancel_left]; rfl
  · rw [if_neg (by omega), if_neg (by omega), if_pos (by omega), Nat.add_sub_cancel_left]; rfl
  · rw [if_neg (by omega), if_neg (by omega), if_neg (by omega), Nat.add_sub_cancel_left]; rfl

theorem laneOf_expandWords (width depth : Nat) (stored : Stored) (first n : Nat) {k l : Nat} {i : Fin 32}
    (hk : k < n) (hl : l < 4) (hi : i.val = 4 * (first + k) + l) :
    laneOf (expandWords width depth stored first n) (4 * k + l) = expandLane width depth stored[i] := by
  have hget : stored.toList.getD (4 * (first + k) + l) 0 = stored[i] := by
    rw [← hi]
    simp [List.getD_eq_getElem?_getD]
  have hword : (expandWords width depth stored first n)[k]? = some (wordOfLanes
      (expandLane width depth (stored.toList.getD (4 * (first + k)) 0))
      (expandLane width depth (stored.toList.getD (4 * (first + k) + 1) 0))
      (expandLane width depth (stored.toList.getD (4 * (first + k) + 2) 0))
      (expandLane width depth (stored.toList.getD (4 * (first + k) + 3) 0))) := by
    simp [expandWords, List.getElem?_range hk]
  rw [laneOf_wordOfLanes _ _ _ _ _ hword hl, ← hget]
  obtain rfl | rfl | rfl | rfl : l = 0 ∨ l = 1 ∨ l = 2 ∨ l = 3 := by omega
  all_goals rfl

/-! ### The merge (R45) -/

theorem enabledBits_getLsbD (enables : Byte) {l b : Nat} (hb : b < 16) :
    (enabledBits enables l).getLsbD b = enables.getLsbD (2 * l + b / 8) := by
  have hlow : ∀ b, b < 16 → (0x00FF#16).getLsbD b = decide (b < 8) := by decide
  have hhigh : ∀ b, b < 16 → (0xFF00#16).getLsbD b = decide (8 ≤ b) := by decide
  unfold enabledBits
  rw [BitVec.getLsbD_or]
  by_cases h : b < 8
  · have hdiv : b / 8 = 0 := by omega
    have hge : ¬ 8 ≤ b := by omega
    rw [hdiv, Nat.add_zero]
    split <;> split <;> simp_all
  · have hdiv : b / 8 = 1 := by omega
    have hge : 8 ≤ b := by omega
    rw [hdiv]
    split <;> split <;> simp_all

/-- Whether a segment that starts at word `first` of a block enables bit `b` of the block's lane `i`. -/
def bitEnabled (first : Nat) (ws : List WriteWord) (i b : Nat) : Bool :=
  decide (first ≤ i / 4) &&
    match ws[i / 4 - first]? with
    | none => false
    | some w => w.enables.getLsbD (2 * (i % 4) + b / 8)

theorem segmentBits_getLsbD (first : Nat) (ws : List WriteWord) (i : Nat) {b : Nat} (hb : b < 16) :
    (segmentBits first ws i).getLsbD b = bitEnabled first ws i b := by
  unfold segmentBits bitEnabled
  by_cases hfirst : first ≤ i / 4
  · cases hw : ws[i / 4 - first]? with
    | none =>
      have hlen := List.getElem?_eq_none_iff.mp hw
      rw [if_neg (by omega)]
      simp
    | some w =>
      obtain ⟨hlen, -⟩ := List.getElem?_eq_some_iff.mp hw
      rw [if_pos (by omega), List.getD_eq_getElem?_getD, hw, Option.getD_some, enabledBits_getLsbD _ hb,
        decide_eq_true hfirst, Bool.true_and]
  · rw [if_neg fun h => hfirst h.1]
    simp [hfirst]

theorem segmentBits_eq_zero_iff (first : Nat) (ws : List WriteWord) (i : Nat) :
    segmentBits first ws i = 0 ↔ ∀ b < 16, bitEnabled first ws i b = false := by
  constructor
  · intro h b hb
    rw [← segmentBits_getLsbD first ws i hb, h]
    simp
  · intro h
    refine BitVec.eq_of_getLsbD_eq fun b hb => ?_
    rw [segmentBits_getLsbD first ws i hb, h b hb]
    simp

theorem segmentLane_getLsbD (first : Nat) (ws : List WriteWord) {i b : Nat} (hi : first ≤ i / 4)
    (hb : b < 16) :
    (segmentLane first ws i).getLsbD b =
      ((ws.getD (i / 4 - first) ⟨0, 0⟩).data).getLsbD (16 * (i % 4) + b) := by
  have hdiv : (i - 4 * first) / 4 = i / 4 - first := by omega
  have hmod : (i - 4 * first) % 4 = i % 4 := by omega
  rw [segmentLane, laneOf_getLsbD _ _ hb, hdiv, hmod]
  congr 1
  rw [List.getD_eq_getElem?_getD, List.getElem?_map, List.getD_eq_getElem?_getD]
  cases ws[i / 4 - first]? <;> rfl

theorem mergeLane_of_untouched {width depth : Nat} {mask : BitVec 16} {first : Nat} {ws : List WriteWord}
    {old : Stored} {i : Fin 32} (h : segmentBits first ws i.val = 0) :
    mergeLane width depth mask first ws old i = (old[i], false) := by
  simp [mergeLane, h]

theorem mergeLane_of_touched {width depth : Nat} {mask : BitVec 16} {first : Nat} {ws : List WriteWord}
    {old : Stored} {i : Fin 32} (h : segmentBits first ws i.val ≠ 0) :
    mergeLane width depth mask first ws old i = reduceLane width depth
      ((segmentLane first ws i.val &&& (segmentBits first ws i.val &&& mask)) |||
        (expandLane width depth old[i] &&& ~~~ (segmentBits first ws i.val &&& mask))) := by
  simp only [mergeLane, if_neg h]

end Sys2Proof.Machine

namespace Sys2Proof.Proofs
open Sys2Proof Sys2Proof.Machine

/-- Settles O18: every bit of a stored value has its place in the block, and is read back from it. -/
theorem packingPlacesEveryBit : Obligations.PackingPlacesEveryBit := by
  intro depth hd
  refine ⟨fun stored i b hb => ⟨?_, ?_⟩, fun words i b _ => ?_, unpackWords_packWords hd⟩
  · have hbytes : ∀ l : List Word, ((l.map bytesOf).flatten).length = 8 * l.length := fun l => by
      induction l with
      | nil => rfl
      | cons w rest ih => simp [bytesOf] at ih ⊢; omega
    have hwords : (packWords depth stored).length = depth / 2 := by simp [packWords]
    rw [hbytes, hwords]
    obtain rfl | rfl | rfl := hd <;> rfl
  · exact (getLsbD_bytes _ _).trans (packWords_at hd stored i hb)
  · intro block m
    rw [getLsbD_unpackWords depth hd words i b, ← getLsbD_bytes]

/-- Settles O19: lanes are reduced, expanded and merged bit by bit, and reads take them expanded. -/
theorem lanesAreReducedExpandedAndMerged : Obligations.LanesAreReducedExpandedAndMerged := by
  intro width depth hw hd hle
  have hw16 : width ≤ 16 := by omega
  have hd12 : depth ≤ 12 := by omega
  refine ⟨fun lane => ⟨?_, fun hlt => reduceLane_of_lt hd12 hlt lane⟩,
    fun stored hs => ⟨expandLane_toNat hw16 hle hs, reduceLane_expandLane hw16 hd12 hle hs⟩, ?_,
    fun words i b hb => laneOf_getLsbD words i hb, ?_⟩
  · rintro rfl
    exact reduceLane_of_eq hd12 lane
  · intro mask first ws old i enabled henabled
    have hbit : ∀ b, enabled b = bitEnabled first ws i.val b := fun b => by rw [henabled]; rfl
    refine ⟨fun hno => mergeLane_of_untouched ?_, fun hsome => ⟨_, mergeLane_of_touched ?_, fun b hb => ?_⟩⟩
    · exact (segmentBits_eq_zero_iff _ _ _).mpr fun b hb => hbit b ▸ hno b hb
    · intro hzero
      obtain ⟨b, hb, hon⟩ := hsome
      rw [hbit, (segmentBits_eq_zero_iff _ _ _).mp hzero b hb] at hon
      cases hon
    · simp only [hbit, BitVec.getLsbD_or, BitVec.getLsbD_and, BitVec.getLsbD_not,
        segmentBits_getLsbD first ws i.val hb, decide_eq_true hb, Bool.true_and]
      cases hon : bitEnabled first ws i.val b with
      | false => simp
      | true =>
        have hfirst : first ≤ i.val / 4 := by
          unfold bitEnabled at hon
          simpa using (Bool.and_eq_true_iff.mp hon).1
        rw [segmentLane_getLsbD first ws hfirst hb]
        cases mask.getLsbD b <;> simp
  · rintro stored first n words rfl
    exact ⟨by simp [expandWords], fun k l i hk hl hi => laneOf_expandWords width depth stored first n hk hl hi⟩

end Sys2Proof.Proofs
end

section
/-! SUPPORT. The key table's changes of users and retirements, and what closing and opening a tracker entry
does (R86 to R94, R123, R125). -/

namespace Sys2Proof.Machine

variable {s : State} {i : ServiceNo} {p : Phase} {v : Service} {e : TrackerEntry}

/-! ### The key-wanted indication (R108, R125) -/

theorem keyWanted_iff (v : Service) : keyWanted v = true ↔
    v.state ≠ .idle ∧ (activePhase v = none ∨ nextState v = some .empty) := by
  simp [keyWanted]

theorem activePhase_of_a (h : v.slotA.state = .active) : activePhase v = some .a := if_pos h

theorem activePhase_of_b (ha : v.slotA.state ≠ .active) (hb : v.slotB.state = .active) :
    activePhase v = some .b := by
  rw [activePhase, if_neg ha, if_pos hb]

theorem activePhase_of_none (ha : v.slotA.state ≠ .active) (hb : v.slotB.state ≠ .active) :
    activePhase v = none := by
  rw [activePhase, if_neg ha, if_neg hb]

theorem nextState_of_active (h : activePhase v = some p) :
    nextState v = some (keySlot v (otherPhase p)).state := by
  rw [nextState, h]
  rfl

theorem nextState_of_none (h : activePhase v = none) : nextState v = none := by
  rw [nextState, h]
  rfl

theorem putService_eq (i : ServiceNo) (v : Service) (s : State) : putService i v s =
    if keyWanted s.services[i] = false ∧ keyWanted v = true then
      setCause .keyWanted { s with services := s.services.set i v }
    else { s with services := s.services.set i v } := by
  unfold putService
  cases keyWanted s.services[i] <;> cases keyWanted v <;> rfl

theorem putService_of_same (h : keyWanted v = keyWanted s.services[i]) :
    putService i v s = { s with services := s.services.set i v } := by
  rw [putService_eq, h]
  cases keyWanted s.services[i] <;> rfl

/-! ### Users and retirements (R88, R123) -/

theorem keySlot_withKeySlot (p : Phase) (k : KeySlot) (v : Service) : keySlot (withKeySlot p k v) p = k := by
  cases p <;> rfl

theorem withKeySlot_withKeySlot (p : Phase) (k k' : KeySlot) (v : Service) :
    withKeySlot p k (withKeySlot p k' v) = withKeySlot p k v := by
  cases p <;> rfl

theorem guard_withKeySlot (p : Phase) (k : KeySlot) (v : Service) :
    (withKeySlot p k v).guard = v.guard := by
  cases p <;> rfl

theorem putService_withUsers (i : ServiceNo) (p : Phase) (n : Nat) (s : State) :
    putService i (withUsers p n s.services[i]) s =
      { s with services := s.services.set i (withUsers p n s.services[i]) } :=
  putService_of_same (keyWanted_users _ _ _)

theorem retireDue_iff (v : Service) (k : KeySlot) :
    retireDue v k = true ↔ k.state = .retiring ∧ v.guard ≤ k.age ∧ k.users = 0 := by
  simp [retireDue, and_assoc]

theorem retire_of_due (h : retireDue s.services[i] (keySlot s.services[i] p) = true) :
    retire i p s = putService i
      (withKeySlot p (emptied (keySlot s.services[i] p)) s.services[i]) s := if_pos h

theorem retire_of_not_due (h : ¬ retireDue s.services[i] (keySlot s.services[i] p) = true) :
    retire i p s = s := if_neg h

theorem addUser_state (i : ServiceNo) (p : Phase) (s : State) : addUser i p s =
    { s with
      services := s.services.set i (withUsers p ((keySlot s.services[i] p).users + 1) s.services[i]) } := by
  rw [addUser_eq, putService_withUsers]

theorem dropUser_state (i : ServiceNo) (p : Phase) (s : State) : dropUser i p s =
    retire i p { s with
      services := s.services.set i (withUsers p ((keySlot s.services[i] p).users - 1) s.services[i]) } := by
  rw [dropUser_eq, putService_withUsers]

/-- The last user of a RETIRING slot past its guard leaves it EMPTY (R123). -/
theorem dropUser_of_due {k : KeySlot} (hk : k = keySlot s.services[i] p) (hr : k.state = .retiring)
    (hage : s.services[i].guard ≤ k.age) (hlast : k.users ≤ 1) :
    dropUser i p s = putService i (withKeySlot p ⟨.empty, zeroKey, 0, k.age⟩ s.services[i])
      { s with services := s.services.set i (withUsers p (k.users - 1) s.services[i]) } := by
  subst hk
  have hnone : (keySlot s.services[i] p).users - 1 = 0 := by omega
  rw [dropUser_state, retire_of_due]
  · simp only [Fin.getElem_fin, Vector.getElem_set_self, withUsers, keySlot_withKeySlot,
      withKeySlot_withKeySlot, emptied] at hnone ⊢
    rw [hnone]
  · rw [retireDue_iff]
    simpa [withUsers, keySlot_withKeySlot, guard_withKeySlot] using ⟨hr, hage, hnone⟩

theorem dropUser_of_not_due {k : KeySlot} (hk : k = keySlot s.services[i] p)
    (h : k.state ≠ .retiring ∨ k.age < s.services[i].guard ∨ 1 < k.users) :
    dropUser i p s =
      { s with services := s.services.set i (withUsers p (k.users - 1) s.services[i]) } := by
  subst hk
  rw [dropUser_state, retire_of_not_due]
  rw [retireDue_iff]
  have hno : ¬ ((keySlot s.services[i] p).state = .retiring ∧
      s.services[i].guard ≤ (keySlot s.services[i] p).age ∧ (keySlot s.services[i] p).users - 1 = 0) := by
    rintro ⟨hr, hage, hnone⟩
    obtain h | h | h := h
    · exact h hr
    · omega
    · omega
  simpa [withUsers, keySlot_withKeySlot, guard_withKeySlot] using hno

/-! ### Closing an entry (R88, R94) -/

/-- The tracker without the entry of a slot. -/
theorem filter_slot_ne (l : List TrackerEntry) (slot : Addr) :
    (l.filter fun x => x.slot != slot) = l.filter fun x => decide (x.slot ≠ slot) :=
  List.filter_congr fun x _ => by simp [bne, beq_eq_decide]

theorem closeEntry_of_plain (h : isScramble e.disposition = false) :
    closeEntry e s = { s with tracker := s.tracker.filter fun x => decide (x.slot ≠ e.slot) } := by
  unfold closeEntry
  rw [filter_slot_ne]
  cases hd : e.disposition with
  | scramble i p => rw [hd] at h; cases h
  | clear => rfl
  | pass => rfl
  | null => rfl

theorem closeEntry_of_scramble (h : e.disposition = .scramble i p) :
    closeEntry e s =
      dropUser i p { s with tracker := s.tracker.filter fun x => decide (x.slot ≠ e.slot) } := by
  unfold closeEntry
  rw [filter_slot_ne, h]
  rfl

/-! ### Opening an entry (R86, R87) -/

theorem findEntry_of_split {slot : Addr} {before after : List TrackerEntry}
    (hs : s.tracker = before ++ e :: after) (hbefore : ∀ x ∈ before, x.slot ≠ slot) (he : e.slot = slot) :
    findEntry s slot = some e := by
  unfold findEntry
  rw [List.find?_eq_some_iff_append]
  exact ⟨by simpa using he, before, after, hs, fun x hx => by simpa using hbefore x hx⟩

theorem findEntry_of_none {slot : Addr} (h : ∀ x ∈ s.tracker, x.slot ≠ slot) : findEntry s slot = none :=
  List.find?_eq_none.mpr fun x hx => by simpa using h x hx

theorem supersede_of_entry {slot : Addr} (h : findEntry s slot = some e) :
    supersede slot s = closeEntry e s := by
  rw [supersede, h]

theorem supersede_of_none {slot : Addr} (h : findEntry s slot = none) : supersede slot s = s := by
  rw [supersede, h]

theorem makeRoom_of_lt (h : s.tracker.length < 20) : makeRoom s = s := if_pos h

theorem makeRoom_of_full {x : TrackerEntry} {rest : List TrackerEntry} (hx : s.tracker = x :: rest)
    (h : 20 ≤ s.tracker.length) : makeRoom s = abandon .evicted x s := by
  have hfull : ¬ s.tracker.length < Config.trackerLimit := Nat.not_lt.mpr h
  rw [makeRoom, if_neg hfull, hx]

/-- A new entry is at the tail, and a user of its key slot (R86). -/
def joinTracker (e : TrackerEntry) (s : State) : State :=
  takeUse e.disposition { s with tracker := s.tracker ++ [e] }

theorem joinTracker_eq (e : TrackerEntry) (t : State) : joinTracker e t =
    match e.disposition with
    | .scramble i p => { t with
        tracker := t.tracker ++ [e]
        services := t.services.set i (withKeySlot p
          { keySlot t.services[i] p with users := (keySlot t.services[i] p).users + 1 }
          t.services[i]) }
    | .clear | .pass | .null => { t with tracker := t.tracker ++ [e] } := by
  unfold joinTracker
  cases e.disposition with
  | scramble i p => exact addUser_state i p _
  | clear => rfl
  | pass => rfl
  | null => rfl

theorem openEntry_eq (e : TrackerEntry) (s : State) :
    openEntry e s = joinTracker e (makeRoom (supersede e.slot s)) := rfl

theorem openEntry_of_superseded {x : TrackerEntry} {before after : List TrackerEntry}
    (hs : s.tracker = before ++ x :: after) (hbefore : ∀ y ∈ before, y.slot ≠ e.slot)
    (hx : x.slot = e.slot) (hlen : s.tracker.length ≤ 20) :
    openEntry e s = joinTracker e (closeEntry x s) := by
  rw [openEntry_eq, supersede_of_entry (findEntry_of_split hs hbefore hx), makeRoom_of_lt]
  rw [tracker_closeEntry]
  refine Nat.lt_of_lt_of_le ?_ hlen
  rw [List.length_filter_lt_length_iff_exists]
  exact ⟨x, hs ▸ List.mem_append_right _ List.mem_cons_self, by simp⟩

theorem openEntry_of_room (hfree : ∀ y ∈ s.tracker, y.slot ≠ e.slot) (hlen : s.tracker.length < 20) :
    openEntry e s = joinTracker e s := by
  rw [openEntry_eq, supersede_of_none (findEntry_of_none hfree), makeRoom_of_lt hlen]

theorem openEntry_of_full {x : TrackerEntry} {rest : List TrackerEntry}
    (hfree : ∀ y ∈ s.tracker, y.slot ≠ e.slot) (hx : s.tracker = x :: rest) (hlen : 20 ≤ s.tracker.length) :
    openEntry e s = joinTracker e (abandon .evicted x s) := by
  rw [openEntry_eq, supersede_of_none (findEntry_of_none hfree), makeRoom_of_full hx hlen]

end Sys2Proof.Machine

namespace Sys2Proof.Proofs
open Sys2Proof Sys2Proof.Machine

/-- Settles O26: the key-wanted indication, and the close of an entry, which may retire its key slot. -/
theorem serviceChangesAndCloses : Obligations.ServiceChangesAndCloses := by
  refine ⟨keyWanted_iff, fun v => ⟨fun ha => ?_, fun ha hb => ?_, fun ha hb => ?_⟩,
    fun s i v => putService_eq i v s, ?_⟩
  · have h := activePhase_of_a ha
    exact ⟨h, nextState_of_active h⟩
  · have h := activePhase_of_b ha hb
    exact ⟨h, nextState_of_active h⟩
  · have h := activePhase_of_none ha hb
    exact ⟨h, nextState_of_none h⟩
  · rintro s e rest rfl
    refine ⟨closeEntry_of_plain, ?_⟩
    rintro i p hd v k rfl rfl w rfl
    rw [closeEntry_of_scramble hd]
    exact ⟨fun hr hage hlast => dropUser_of_due rfl hr hage hlast, fun hno => dropUser_of_not_due rfl hno⟩

end Sys2Proof.Proofs
end

section
/-! SUPPORT. The slot header's fields, dispositions, the words written, and openings and continuations
case by case (R67 to R93). -/

namespace Sys2Proof.Machine

variable {s : State} {ws : List WriteWord} {unlisted : ClearOrNull} {e : TrackerEntry} {slot : Addr}

/-! ### The header's fields (R67, R69) -/

theorem byteOf_toNat (w : Word) (j : Nat) : (byteOf w j).toNat = w.toNat / 256 ^ j % 256 := by
  have hpow : (256 : Nat) ^ j = 2 ^ (8 * j) := by
    rw [Nat.pow_mul]
  rw [hpow, byteOf, BitVec.toNat_setWidth, BitVec.toNat_ushiftRight, Nat.shiftRight_eq_div_pow]

theorem headerOf_stamp (w v : Word) : (headerOf w v).stamp.toNat = w.toNat % 2 ^ 32 :=
  BitVec.toNat_setWidth 32 w

theorem headerOf_pid (w v : Word) :
    (headerOf w v).pid.toNat = (byteOf w 5).toNat % 32 * 256 + (byteOf w 6).toNat := by
  have happend : (headerOf w v).pid.toNat =
      ((byteOf w 5).toNat % 32) <<< 8 ||| (byteOf w 6).toNat := by
    simp only [headerOf, BitVec.toNat_append, BitVec.toNat_setWidth]
  rw [happend, ← Nat.shiftLeft_add_eq_or_of_lt (byteOf w 6).isLt, Nat.shiftLeft_eq]

theorem headerOf_code (w v : Word) : (headerOf w v).code.toNat = (byteOf w 7).toNat / 64 := by
  have hlt := (byteOf w 7).isLt
  have hcode : (headerOf w v).code.toNat = (byteOf w 7).toNat / 64 % 4 := by
    simp only [headerOf, BitVec.toNat_setWidth, BitVec.toNat_ushiftRight, Nat.shiftRight_eq_div_pow]
  omega

theorem headerOf_adaptation (w v : Word) :
    (headerOf w v).adaptation.toNat = (byteOf w 7).toNat / 16 % 4 := by
  simp only [headerOf, BitVec.toNat_setWidth, BitVec.toNat_ushiftRight, Nat.shiftRight_eq_div_pow]

theorem headerOf_continuity (w v : Word) :
    (headerOf w v).continuity.toNat = (byteOf w 7).toNat % 16 :=
  BitVec.toNat_setWidth 4 (byteOf w 7)

theorem proper_iff (ws : List WriteWord) : proper ws = true ↔
    ∃ a b rest, ws = a :: b :: rest ∧ a.enables = 0xFF ∧ b.enables = 0xFF := by
  match ws with
  | [] => simp [proper]
  | [a] => simp [proper]
  | a :: b :: rest => simp [proper, allEnabled]

/-! ### The stream map (R79) -/

theorem findInput_eq_none (s : State) (pid : Pid) : findInput s pid = none ↔
    ∀ i : StreamNo, s.streams[i].valid = true → s.streams[i].input ≠ pid := by
  simp [findInput, List.find?_eq_none]

theorem of_findInput {pid : Pid} {x : StreamEntry} (h : findInput s pid = some x) :
    ∃ i : StreamNo, x = s.streams[i] ∧ x.valid = true ∧ x.input = pid := by
  obtain ⟨i, hi, rfl⟩ := Option.map_eq_some_iff.mp h
  have hfound := List.find?_some hi
  exact ⟨i, rfl, by simpa using hfound⟩

theorem effectiveOutput_eq (x : StreamEntry) :
    (x.output = none → effectiveOutput x = x.input) ∧ (∀ o, x.output = some o → effectiveOutput x = o) := by
  refine ⟨fun h => ?_, fun o h => ?_⟩ <;> rw [effectiveOutput, h] <;> rfl

/-! ### The disposition (R71, R72) -/

theorem systemPid_iff (n : Nat) : systemPid n = true ↔ n ≤ 0x1F ∨ n = 0x1FFF := by
  simp [systemPid]

theorem decideOpening_of_malformed (h : proper ws = false ∨ malformed (openingHeader ws) = true) :
    decideOpening s unlisted ws = ⟨.null, 0, none, true⟩ := by
  refine if_pos ?_
  obtain h | h := h <;> simp [h]

theorem decideOpening_of_system (hp : proper ws = true) (hm : malformed (openingHeader ws) = false)
    (hsys : systemPid (openingHeader ws).pid.toNat = true) :
    decideOpening s unlisted ws = ⟨.clear, (openingHeader ws).pid, none, false⟩ := by
  simp [decideOpening, hp, hm, hsys, plainDecision]

section
variable (hp : proper ws = true) (hm : malformed (openingHeader ws) = false)
  (hsys : systemPid (openingHeader ws).pid.toNat = false)
include hp hm hsys

theorem decideOpening_of_scrambled (hc : (openingHeader ws).code.getLsbD 1 = true) :
    decideOpening s unlisted ws =
      match findInput s (openingHeader ws).pid with
      | some x => ⟨.pass, effectiveOutput x, none, false⟩
      | none => ⟨.pass, (openingHeader ws).pid, none, false⟩ := by
  simp only [decideOpening, hp, hm, hsys, hc]
  cases findInput s (openingHeader ws).pid <;> rfl

theorem decideOpening_of_unlisted (hc : (openingHeader ws).code.getLsbD 1 = false)
    (hf : findInput s (openingHeader ws).pid = none) :
    decideOpening s unlisted ws =
      ⟨unlistedDisposition unlisted, (openingHeader ws).pid, none, false⟩ := by
  simp only [decideOpening, hp, hm, hsys, hc, hf]
  rfl

theorem decideOpening_of_listed {x : StreamEntry} (hc : (openingHeader ws).code.getLsbD 1 = false)
    (hf : findInput s (openingHeader ws).pid = some x) :
    decideOpening s unlisted ws = listedDecision s x := by
  simp only [decideOpening, hp, hm, hsys, hc, hf]
  rfl

end

theorem listedDecision_of_scramble {x : StreamEntry} {i : ServiceNo} (ht : x.treatment = .scramble)
    (hi : x.service = some i) : listedDecision s x = serviceDecision s i (effectiveOutput x) := by
  simp only [listedDecision, ht, hi]

theorem serviceDecision_of_active {i : ServiceNo} {pid : Pid} {p : Phase}
    (hst : s.services[i].state = .running ∨ s.services[i].state = .starved)
    (hp : activePhase s.services[i] = some p) :
    serviceDecision s i pid = ⟨.scramble i p, pid, none, false⟩ := by
  obtain hst | hst := hst <;> simp only [serviceDecision, hst, hp, plainDecision]

theorem serviceDecision_of_idle {i : ServiceNo} {pid : Pid} (hst : s.services[i].state = .idle) :
    (s.services[i].policy = .clear → serviceDecision s i pid = ⟨.clear, pid, none, false⟩) ∧
    (s.services[i].policy = .null → serviceDecision s i pid = ⟨.null, pid, some i, false⟩) := by
  refine ⟨fun hpol => ?_, fun hpol => ?_⟩ <;> simp only [serviceDecision, hst, hpol, plainDecision]

theorem serviceDecision_of_withholding {i : ServiceNo} {pid : Pid}
    (hst : s.services[i].state = .withholding) :
    serviceDecision s i pid = ⟨.null, pid, some i, false⟩ := by
  simp only [serviceDecision, hst]

/-! ### Openings (R73 to R86) -/

theorem coveredWords_getLsbD (first n : Nat) {k : Nat} (hk : k < 24) :
    (coveredWords first n).getLsbD k = decide (first ≤ k ∧ k < first + n) := by
  rw [coveredWords, BitVec.getLsbD_ofNat, Nat.testBit_mul_two_pow, Nat.testBit_two_pow_sub_one,
    decide_eq_true hk, Bool.true_and, Bool.decide_and]
  by_cases h : first ≤ k
  · have hiff : k - first < n ↔ k < first + n := by omega
    simp [h, hiff]
  · simp [h]

theorem coveredWords_of_bits {covered : BitVec 24} {n : Nat}
    (h : ∀ k < 24, covered.getLsbD k = decide (k < n)) : covered = coveredWords 0 n := by
  refine BitVec.eq_of_getLsbD_eq fun k hk => ?_
  rw [h k hk, coveredWords_getLsbD 0 n hk]
  simp

theorem openingEntry_eq (s : State) (p : PendingEntry) (n : ApertureNo) (slot : Addr) (d : Decision)
    (ws : List WriteWord) : openingEntry s p n slot d ws =
      if d.disposition = .null then
        ⟨slot, n, p.request.initiator, .null, none, 0, 0, 0, coveredWords 0 ws.length, s.time.tickCount⟩
      else
        ⟨slot, n, p.request.initiator, d.disposition, payloadStart (openingHeader ws),
          (openingHeader ws).stamp, d.pid, (openingHeader ws).continuity, coveredWords 0 ws.length,
          s.time.tickCount⟩ := by
  by_cases hd : d.disposition = .null
  · rw [if_pos hd, openingEntry, hd]
  · rw [if_neg hd, openingEntry_of_ne_null s p n slot ws hd]

theorem openingEntry_congr {t : State} (h : t.time = s.time) (p : PendingEntry) (n : ApertureNo)
    (slot : Addr) (d : Decision) (ws : List WriteWord) :
    openingEntry t p n slot d ws = openingEntry s p n slot d ws := by
  rw [openingEntry_eq, openingEntry_eq, h]

theorem malformedRecord_eq (s : State) (p : PendingEntry) (n : ApertureNo) (g : Segment)
    (ws : List WriteWord) : malformedRecord s p n g ws =
      ⟨.malformed, p.request.initiator, .write, g.address, s.time.tickCount.setWidth 16, some n,
        if (ws.getD 0 ⟨0, 0⟩).enables.getLsbD 5 = true ∧ (ws.getD 0 ⟨0, 0⟩).enables.getLsbD 6 = true then
          some (openingHeader ws).pid else none,
        none, none, none⟩ := by
  simp only [malformedRecord, Bool.and_eq_true]
  rfl

theorem countPacket_eq (d : Decision) (s : State) :
    ∃ v, countPacket d s = { s with services := v } := by
  unfold countPacket
  split
  · exact ⟨_, rfl⟩
  · exact ⟨_, rfl⟩
  · exact ⟨s.services, rfl⟩

theorem openEntry_waiting (e : TrackerEntry) (s : State) : (openEntry e s).waiting = s.waiting := by
  obtain ⟨_, _, _, _, _, _, h⟩ := openEntry_changes e s
  rw [h]

/-! ### The words that are written (R74, R75) -/

theorem mapSlotWords_length (first : Nat) (f : Nat → Byte → Byte) (words : List Word) :
    (mapSlotWords first f words).length = words.length := by
  simp [mapSlotWords]

theorem keptWords_length (first : Nat) (f : Nat → Byte → Byte) (ws : List WriteWord) :
    (keptWords first f ws).length = ws.length := by
  simp [keptWords, mapSlotWords_length]

theorem nullWords_length (first : Nat) (ws : List WriteWord) : (nullWords first ws).length = ws.length := by
  simp [nullWords, mapSlotWords_length]

theorem mapped_at (first : Nat) (f : Nat → Byte → Byte) {k j : Nat} {w : WriteWord} (hw : ws[k]? = some w)
    (hj : j < 8) :
    ∃ x, (mapSlotWords first f (ws.map (·.data)))[k]? = some x ∧
      byteOf x j = f (8 * (first + k) + j) (byteOf w.data j) :=
  mapSlotWords_at first f (ws.map (·.data)) k j w.data (by simp [hw]) hj

theorem keptWords_at (first : Nat) (f : Nat → Byte → Byte) {k j : Nat} {w : WriteWord}
    (hw : ws[k]? = some w) (hj : j < 8) :
    ∃ x : WriteWord, (keptWords first f ws)[k]? = some x ∧ x.enables = w.enables ∧
      byteOf x.data j = f (8 * (first + k) + j) (byteOf w.data j) := by
  obtain ⟨x, hx, hbyte⟩ := mapped_at first f hw hj
  exact ⟨⟨x, w.enables⟩, by simp [keptWords, List.getElem?_zipWith, hw, hx], rfl, hbyte⟩

theorem nullWords_at (first : Nat) {k j : Nat} {w : WriteWord} (hw : ws[k]? = some w) (hj : j < 8) :
    ∃ x : WriteWord, (nullWords first ws)[k]? = some x ∧
      x.enables = (if first + k = 0 then w.enables ||| 0xF0#8 else allEnabled) ∧
      byteOf x.data j = nullByte (8 * (first + k) + j) (byteOf w.data j) := by
  obtain ⟨x, hx, hbyte⟩ := mapped_at first nullByte hw hj
  refine ⟨⟨x, if first + k = 0 then w.enables ||| 0xF0#8 else allEnabled⟩, ?_, rfl, hbyte⟩
  have hzip : (ws.zip (mapSlotWords first nullByte (ws.map (·.data))))[k]? = some (w, x) := by
    rw [List.getElem?_zip_eq_some]
    exact ⟨hw, hx⟩
  simp [nullWords, hzip]

theorem nullByte_of_lt {n : Nat} (b : Byte) (h : n < 4) : nullByte n b = b := by
  obtain rfl | rfl | rfl | rfl : n = 0 ∨ n = 1 ∨ n = 2 ∨ n = 3 := by omega
  all_goals rfl

theorem nullByte_of_le {n : Nat} (b : Byte) (h : 4 ≤ n) : nullByte n b =
    if n = 4 then 0x47 else if n = 5 then 0x1F else if n = 6 then 0xFF
    else if n = 7 then 0x10 else 0xFF := by
  match n, h with
  | 4, _ => rfl
  | 5, _ => rfl
  | 6, _ => rfl
  | 7, _ => rfl
  | m + 8, _ => simp [nullByte]

theorem rewriteByte_eq (pid : Pid) (code : BitVec 2) (n : Nat) (b : Byte) : rewriteByte pid code n b =
    if n = 5 then (b &&& 0xE0#8) ||| BitVec.ofNat 8 (pid.toNat / 256)
    else if n = 6 then BitVec.ofNat 8 pid.toNat
    else if n = 7 then (b &&& 0x3F#8) ||| BitVec.ofNat 8 (64 * code.toNat)
    else b := by
  have hhigh : (pid >>> 8).setWidth 8 = BitVec.ofNat 8 (pid.toNat / 256) := by
    apply BitVec.eq_of_toNat_eq
    simp [Nat.shiftRight_eq_div_pow]
  have hlow : pid.setWidth 8 = BitVec.ofNat 8 pid.toNat := by
    apply BitVec.eq_of_toNat_eq
    simp
  have hcode : code.setWidth 8 <<< 6 = BitVec.ofNat 8 (64 * code.toNat) := by
    apply BitVec.eq_of_toNat_eq
    have := code.isLt
    simp [Nat.shiftLeft_eq]
    omega
  unfold rewriteByte
  rw [hhigh, hlow, hcode]
  split
  · rfl
  · rfl
  · rfl
  · rename_i h5 h6 h7
    rw [if_neg h5, if_neg h6, if_neg h7]

section
variable {d : Decision}

theorem openingWords_of_null (h : d.disposition = .null) : openingWords s d ws = nullWords 0 ws := by
  simp only [openingWords, h]

theorem openingWords_of_kept (h : d.disposition = .clear ∨ d.disposition = .pass) :
    openingWords s d ws = keptWords 0 (rewriteByte d.pid (openingHeader ws).code) ws := by
  obtain h | h := h <;> simp only [openingWords, h]

theorem openingWords_of_scramble {i : ServiceNo} {p : Phase} (h : d.disposition = .scramble i p) :
    openingWords s d ws = keptWords 0 (fun n b =>
      combine (slotStream s i p (openingHeader ws).stamp d.pid (openingHeader ws).continuity)
        (payloadStart (openingHeader ws)) n (rewriteByte d.pid (phaseCode p) n b)) ws := by
  simp only [openingWords, h]

theorem continuationWords_of_null {first : Nat} (h : e.disposition = .null) :
    continuationWords s e first ws = nullWords first ws := by
  simp only [continuationWords, h]

theorem continuationWords_of_kept {first : Nat} (h : e.disposition = .clear ∨ e.disposition = .pass) :
    continuationWords s e first ws = ws := by
  obtain h | h := h <;> simp only [continuationWords, h]

theorem continuationWords_of_scramble {first : Nat} {i : ServiceNo} {p : Phase}
    (h : e.disposition = .scramble i p) : continuationWords s e first ws =
      keptWords first (combine (slotStream s i p e.stamp e.pid e.continuity) e.payloadStart) ws := by
  simp only [continuationWords, h]

end

theorem openingWords_length (s : State) (d : Decision) (ws : List WriteWord) :
    (openingWords s d ws).length = ws.length := by
  unfold openingWords
  dsimp only
  split
  · exact nullWords_length 0 ws
  · exact keptWords_length 0 _ ws
  · exact keptWords_length 0 _ ws
  · exact keptWords_length 0 _ ws

theorem continuationWords_length (s : State) (e : TrackerEntry) (first : Nat) (ws : List WriteWord) :
    (continuationWords s e first ws).length = ws.length := by
  unfold continuationWords
  split
  · exact nullWords_length first ws
  · rfl
  · rfl
  · exact keptWords_length first _ ws

/-! ### Continuations (R91, R93) -/

theorem markEntry_getLsbD (s : State) (first n : Nat) (e : TrackerEntry) {k : Nat} (hk : k < 24) :
    (markEntry s first n e).written.getLsbD k =
      (e.written.getLsbD k || decide (first ≤ k ∧ k < first + n)) := by
  rw [← coveredWords_getLsbD first n hk]
  exact BitVec.getLsbD_or

theorem eq_allWords_iff (x : BitVec 24) : x = allWords ↔ ∀ k < 24, x.getLsbD k = true := by
  have hall : ∀ k < 24, allWords.getLsbD k = true := by
    intro k hk
    rw [allWords, BitVec.getLsbD_allOnes, decide_eq_true hk]
  refine ⟨fun h k hk => h ▸ hall k hk, fun h => BitVec.eq_of_getLsbD_eq fun k hk => ?_⟩
  rw [h k hk, hall k hk]

theorem markWords_of_some_left {first n : Nat} (he : findEntry s slot = some e)
    (h : (markEntry s first n e).written ≠ allWords) :
    markWords slot first n s = { s with
      tracker := s.tracker.map fun x => if x.slot = slot then markEntry s first n e else x } := by
  simp only [markWords, he, if_neg h]

theorem markWords_of_complete {first n : Nat} (he : findEntry s slot = some e)
    (h : (markEntry s first n e).written = allWords) : markWords slot first n s = closeEntry e s := by
  simp only [markWords, he, if_pos h]

theorem handContinuation_of_entry {first : Nat} (he : findEntry s slot = some e) (p : PendingEntry)
    (n : ApertureNo) (ref : SegRef) (g : Segment) (ws : List WriteWord) :
    handContinuation p n ref g slot first ws s =
      markWords slot first ws.length (handPacketWrite p ref g (continuationWords s e first ws) s) := by
  simp only [handContinuation, he]

theorem handContinuation_of_orphan {first : Nat} (he : findEntry s slot = none) (p : PendingEntry)
    (n : ApertureNo) (ref : SegRef) (g : Segment) (ws : List WriteWord) :
    handContinuation p n ref g slot first ws s = finishSegment ref .refused []
      (offer (plainRecord s .orphan p.request.initiator .write g.address (some n)) s) := by
  simp only [handContinuation, he]

end Sys2Proof.Machine

namespace Sys2Proof.Proofs
open Sys2Proof Sys2Proof.Machine

/-- Settles O23: an orphan continuation is refused and recorded. -/
theorem orphanContinuationIsRefused : Obligations.OrphanContinuationIsRefused := by
  intro s p n ref g slot first ws hfree
  rw [handContinuation_of_orphan (findEntry_of_none hfree), finishSegment_eq (offer_pendingList (s := s) _)]
  rfl

/-- Settles O22: the words openings and continuations write, byte by byte, and the marking of an entry. -/
theorem wordsThatAnOpeningWrites : Obligations.WordsThatAnOpeningWrites := by
  refine ⟨?_, ?_, ?_, ?_⟩
  · rintro first ws k j w hw hj n rfl
    refine ⟨?_, fun pid code => ?_, fun f => keptWords_at first f hw hj⟩
    · obtain ⟨x, hx, henables, hbyte⟩ := nullWords_at first hw hj
      refine ⟨x, hx, fun hlow => ⟨?_, ?_⟩, fun hhigh => ⟨?_, ?_⟩⟩
      · rw [hbyte, nullByte_of_lt _ hlow]
      · have hj4 : j < 4 := by omega
        have hmask : ∀ j < 4, (0xF0#8).getLsbD j = false := by decide
        rw [henables, if_pos (by omega), BitVec.getLsbD_or, hmask j hj4, Bool.or_false]
      · have hmask : ∀ j < 8, 4 ≤ j → (0xF0#8).getLsbD j = true := by decide
        have hall : ∀ j < 8, allEnabled.getLsbD j = true := by decide
        rw [henables]
        split
        · rw [BitVec.getLsbD_or, hmask j hj (by omega), Bool.or_true]
        · exact hall j hj
      · rw [hbyte, nullByte_of_le _ hhigh]
    · obtain ⟨x, hx, henables, hbyte⟩ := keptWords_at first (rewriteByte pid code) hw hj
      exact ⟨x, hx, henables, hbyte.trans (rewriteByte_eq pid code _ _)⟩
  · rintro s d ws h rfl
    refine ⟨openingWords_length s d ws, openingWords_of_null, openingWords_of_kept, ?_⟩
    intro i p hd stream hstream
    rw [openingWords_of_scramble hd, slotStream, ← hstream]
    clear hstream
    cases p <;> rfl
  · intro s e first ws
    refine ⟨continuationWords_length s e first ws, continuationWords_of_null, continuationWords_of_kept, ?_⟩
    intro i p hd stream hstream
    rw [continuationWords_of_scramble hd, slotStream, hstream]
  · rintro s p n ref g slot first ws before after e hs hbefore hslot w rfl
    have he := findEntry_of_split hs hbefore hslot
    have hand := handContinuation_of_entry (first := first) he p n ref g ws
    have hnext : findEntry (handPacketWrite p ref g (continuationWords s e first ws) s) slot = some e := he
    refine ⟨markEntry s first ws.length e, rfl, fun k hk => markEntry_getLsbD s first ws.length e hk, ?_, ?_⟩
    · rintro ⟨k, hk, hleft⟩
      have hne : (markEntry s first ws.length e).written ≠ allWords := fun heq => by
        rw [(eq_allWords_iff _).mp heq k hk] at hleft
        cases hleft
      rw [hand]
      exact markWords_of_some_left hnext hne
    · intro hall
      rw [hand]
      exact markWords_of_complete hnext ((eq_allWords_iff _).mpr hall)

/-- Settles O21: the disposition by its steps, the header's fields, the entry's contents, and what an opening
does in order. -/
theorem dispositionOfAnOpening : Obligations.DispositionOfAnOpening := by
  refine ⟨?_, fun s pid => ⟨findInput_eq_none s pid, fun e => of_findInput⟩, effectiveOutput_eq,
    fun ws => ⟨proper_iff ws, rfl⟩, ?_, ?_, ?_, ?_⟩
  · rintro s unlisted ws h d rfl rfl
    refine ⟨decideOpening_of_malformed, fun hp hm => ⟨fun hsys => ?_, fun hlow hnull => ?_⟩⟩
    · exact decideOpening_of_system hp hm ((systemPid_iff _).mpr hsys)
    · have hsys : systemPid (openingHeader ws).pid.toNat = false := by
        rw [Bool.eq_false_iff, Ne, systemPid_iff]
        omega
      refine ⟨fun hcode => ?_, fun hcode => ?_⟩
      · have hbit : (openingHeader ws).code.getLsbD 1 = true := by
          obtain hcode | hcode := hcode <;> rw [hcode] <;> rfl
        rw [decideOpening_of_scrambled hp hm hsys hbit]
        refine ⟨fun hf => ?_, fun e hf => ?_⟩ <;> rw [hf]
      · have hbit : (openingHeader ws).code.getLsbD 1 = false := by rw [hcode]; rfl
        refine ⟨fun hf => ?_, ?_⟩
        · rw [decideOpening_of_unlisted hp hm hsys hbit hf]
          cases unlisted <;> rfl
        · rintro e hf pid rfl
          rw [decideOpening_of_listed hp hm hsys hbit hf]
          refine ⟨fun ht => ?_, fun ht => ?_, ?_⟩
          · rw [listedDecision, ht]; rfl
          · rw [listedDecision, ht]; rfl
          · rintro i ht hi v rfl
            rw [listedDecision_of_scramble ht hi]
            exact ⟨fun p hst hact => serviceDecision_of_active hst hact,
              fun hst => (serviceDecision_of_idle hst).1, fun hst => (serviceDecision_of_idle hst).2,
              serviceDecision_of_withholding⟩
  · rintro w v h rfl b rfl
    have hw := w.isLt
    refine ⟨?_, byteOf_toNat w 4, ?_, ?_, ?_, ?_, byteOf_toNat v 0⟩
    · rw [headerOf_stamp]
      simp
      omega
    · rw [headerOf_pid, byteOf_toNat, byteOf_toNat]
      rfl
    · rw [headerOf_code, byteOf_toNat]
      rfl
    · rw [headerOf_adaptation, byteOf_toNat]
      rfl
    · rw [headerOf_continuity, byteOf_toNat]
      rfl
  · rintro s p n slot d ws covered hcovered h rfl
    rw [openingEntry_eq, coveredWords_of_bits hcovered]
  · rintro s p n unlisted ref g slot ws d rfl counted hcounted word rfl reported hreported t rfl
    have hcount : counted = countPacket (decideOpening s unlisted ws) s := hcounted
    obtain ⟨v, hv⟩ := countPacket_eq (decideOpening s unlisted ws) s
    have hrep : reported = if (decideOpening s unlisted ws).malformed then
        offer (malformedRecord counted p n g ws) counted else counted := by
      rw [hreported, malformedRecord_eq, hcount, hv]
    have htime : reported.time = s.time := by
      rw [hrep, hcount, hv]
      split
      · exact offer_time _ _
      · rfl
    have hwaiting : reported.waiting = s.waiting := by
      rw [hrep, hcount, hv]
      split
      · exact offer_waiting _ _
      · rfl
    unfold handOpening
    dsimp only
    rw [← hcount, ← hrep, openingEntry_congr htime, handPacketWrite, handAccess, openEntry_waiting, hwaiting]
    rfl
  · rintro s e added hadded
    have hjoin : ∀ t, joinTracker e t = added t := fun t => by rw [joinTracker_eq, hadded] <;> rfl
    refine ⟨fun before x after hs hbefore hx hlen => ?_,
      fun hfree => ⟨fun hlen => ?_, fun x rest hx hlen => ?_⟩⟩
    · rw [openEntry_of_superseded hs hbefore hx hlen, hjoin]
    · rw [openEntry_of_room hfree hlen, hjoin]
    · rw [openEntry_of_full hfree hx hlen, hjoin]
      rfl

end Sys2Proof.Proofs
end

section
/-! SUPPORT. The keystream's bytes, words changed byte by byte, and the reads of packet slots case by case
(R83, R98 to R105). -/

namespace Sys2Proof.Machine

variable {s : State} {p : PendingEntry} {ref : SegRef} {g : Segment} {slot : Addr} {first : Nat}

/-! ### Lengths through the cipher (R98) -/

theorem xorBytes_length {xs ys : List Byte} (h : ys.length = xs.length) :
    (xorBytes xs ys).length = xs.length := by
  simp [xorBytes, h]

theorem shiftRows_length (l : List Byte) : (shiftRows l).length = l.length := by
  unfold shiftRows
  split <;> rfl

theorem nextKey_length (c : Byte) (l : List Byte) : (nextKey c l).length = l.length := by
  unfold nextKey
  split
  · simp [xorBytes]
  · rfl

theorem mixColumns_length : ∀ l : List Byte, (mixColumns l).length = l.length
  | [] => rfl
  | [_] => rfl
  | [_, _] => rfl
  | [_, _, _] => rfl
  | a :: b :: c :: d :: rest => by
    simp [mixColumns, mixColumn, mixColumns_length rest]

theorem cipherRounds_length (cs : List Byte) {key block : List Byte} (h : key.length = block.length) :
    (cipherRounds cs key block).length = block.length := by
  induction cs generalizing key block with
  | nil => rfl
  | cons c rest ih =>
    cases rest with
    | nil =>
      rw [cipherRounds, xorBytes_length]
      · rw [shiftRows_length, List.length_map]
      · rw [nextKey_length, shiftRows_length, List.length_map, h]
    | cons c' rest' =>
      have hmixed : (mixColumns (shiftRows (block.map sbox))).length = block.length := by
        rw [mixColumns_length, shiftRows_length, List.length_map]
      have hround : (xorBytes (mixColumns (shiftRows (block.map sbox))) (nextKey c key)).length
          = block.length := by
        rw [xorBytes_length, hmixed]
        rw [nextKey_length, h, hmixed]
      rw [cipherRounds, ih]
      · exact hround
      · rw [nextKey_length, h, hround]
      · simp

theorem aes128_length {key block : List Byte} (h : key.length = block.length) :
    (aes128 key block).length = block.length := by
  rw [aes128, cipherRounds_length]
  · exact xorBytes_length h
  · rw [xorBytes_length h, h]

theorem counterBlock_length (n : Nonce) (k : Nat) : (counterBlock n k).length = 16 := rfl

/-- Lists of one length stand one after the other. -/
theorem getD_flatten {α : Type} {n : Nat} (hn : 0 < n) (d : α) (l : List (List α))
    (h : ∀ x ∈ l, x.length = n) (j : Nat) : l.flatten.getD j d = (l.getD (j / n) []).getD (j % n) d := by
  induction l generalizing j with
  | nil => simp
  | cons x l ih =>
    have hx : x.length = n := h x List.mem_cons_self
    rw [List.flatten_cons]
    by_cases hj : j < n
    · rw [List.getD_append _ _ _ _ (hx ▸ hj), Nat.div_eq_of_lt hj, Nat.mod_eq_of_lt hj]
      rfl
    · have hj' : n ≤ j := Nat.le_of_not_lt hj
      rw [List.getD_append_right _ _ _ _ (hx ▸ hj'), hx, ih fun y hy => h y (List.mem_cons_of_mem _ hy),
        Nat.div_eq_sub_div hn hj', Nat.mod_eq_sub_mod hj']
      rfl

theorem getD_flatten_range {n m j : Nat} (f : Nat → List Byte) (hf : ∀ k, (f k).length = n) (hn : 0 < n)
    (hj : j < n * m) : ((List.range m).map f).flatten.getD j 0 = (f (j / n)).getD (j % n) 0 := by
  have hlen : ∀ x ∈ (List.range m).map f, x.length = n := by
    intro x hx
    obtain ⟨k, -, rfl⟩ := List.mem_map.mp hx
    exact hf k
  have hget : ((List.range m).map f).getD (j / n) [] = f (j / n) := by
    rw [List.getD_eq_getElem?_getD, List.getElem?_map, List.getElem?_range (Nat.div_lt_of_lt_mul hj)]
    rfl
  rw [getD_flatten hn 0 _ hlen, hget]

theorem keystream_getD (key : ControlWord) (n : Nonce) {j : Nat} (hj : j < 192) :
    (keystream key n).getD j 0 = (aes128 key.toList (counterBlock n (j / 16))).getD (j % 16) 0 := by
  refine getD_flatten_range (m := 12) (fun k => aes128 key.toList (counterBlock n k)) (fun k => ?_)
    (by decide) hj
  exact aes128_length (Vector.length_toList.trans (counterBlock_length n k).symm)

theorem counterBlock_eq (n : Nonce) (k : Nat) : counterBlock n k =
    [n.stamp.setWidth 8, (n.stamp >>> 8).setWidth 8, (n.stamp >>> 16).setWidth 8,
      (n.stamp >>> 24).setWidth 8, (n.pid >>> 8).setWidth 8, n.pid.setWidth 8, n.continuity.setWidth 8,
      BitVec.ofNat 8 n.service, 0, 0, 0, 0, 0, 0, BitVec.ofNat 8 (k / 256), BitVec.ofNat 8 k] := by
  have hbyte : ∀ {w : Nat} (x : BitVec w) (m : Nat), BitVec.ofNat 8 (x.toNat / 2 ^ m) = (x >>> m).setWidth 8 :=
    fun x m => by
      apply BitVec.eq_of_toNat_eq
      rw [BitVec.toNat_ofNat, BitVec.toNat_setWidth, BitVec.toNat_ushiftRight, Nat.shiftRight_eq_div_pow]
  have hlow : ∀ {w : Nat} (x : BitVec w), BitVec.ofNat 8 x.toNat = x.setWidth 8 := fun x => by
    apply BitVec.eq_of_toNat_eq
    rw [BitVec.toNat_ofNat, BitVec.toNat_setWidth]
  have hstamp : leBytes 4 n.stamp.toNat = [n.stamp.setWidth 8, (n.stamp >>> 8).setWidth 8,
      (n.stamp >>> 16).setWidth 8, (n.stamp >>> 24).setWidth 8] := by
    simp only [leBytes, Nat.div_div_eq_div_mul]
    rw [← hlow, ← hbyte n.stamp 8, ← hbyte n.stamp 16, ← hbyte n.stamp 24]
    rfl
  have hpid : natByte (n.pid.toNat / 256) = (n.pid >>> 8).setWidth 8 := hbyte n.pid 8
  have hpidLow : natByte n.pid.toNat = n.pid.setWidth 8 := hlow n.pid
  have hcontinuity : natByte n.continuity.toNat = n.continuity.setWidth 8 := hlow n.continuity
  rw [counterBlock, hstamp, hpid, hpidLow, hcontinuity]
  rfl

/-! ### Words changed byte by byte (R89, R105) -/

theorem byteOf_ext {w v : Word} (h : ∀ j < 8, byteOf w j = byteOf v j) : w = v := by
  rw [← wordOf_bytesOf w, ← wordOf_bytesOf v, bytesOf, bytesOf]
  congr 1
  exact List.map_congr_left fun j hj => h j (List.mem_range.mp hj)

/-- A change of bytes that undoes itself at every place undoes itself on words. -/
theorem mapSlotWords_involutive {f : Nat → Byte → Byte} (hf : ∀ n b, f n (f n b) = b) (first : Nat)
    (words : List Word) : mapSlotWords first f (mapSlotWords first f words) = words := by
  refine List.ext_getElem? fun k => ?_
  cases hw : words[k]? with
  | none =>
    rw [List.getElem?_eq_none_iff] at hw ⊢
    rwa [mapSlotWords_length, mapSlotWords_length]
  | some w =>
    have hlen : k < (mapSlotWords first f (mapSlotWords first f words)).length := by
      rw [mapSlotWords_length, mapSlotWords_length]
      exact (List.getElem?_eq_some_iff.mp hw).1
    rw [List.getElem?_eq_getElem hlen]
    refine congrArg some (byteOf_ext fun j hj => ?_)
    obtain ⟨x, hx, hbyte⟩ := mapSlotWords_at first f words k j w hw hj
    obtain ⟨y, hy, hagain⟩ := mapSlotWords_at first f _ k j x hx hj
    rw [List.getElem?_eq_getElem hlen] at hy
    rw [Option.some.inj hy, hagain, hbyte, hf]

theorem combine_combine (stream : List Byte) (start : Option Nat) (n : Nat) (b : Byte) :
    combine stream start n (combine stream start n b) = b := by
  cases start with
  | none => rfl
  | some k =>
    by_cases hk : k ≤ n
    · rw [combine_of_le b hk, combine_of_le _ hk, BitVec.xor_assoc, BitVec.xor_self, BitVec.xor_zero]
    · have hlt := Nat.lt_of_not_le hk
      rw [combine_of_lt b hlt, combine_of_lt b hlt]

theorem byteOf_mapSlotWords (f : Nat → Byte → Byte) (words : List Word) {k j : Nat}
    (hk : k < words.length) (hj : j < 8) :
    byteOf ((mapSlotWords first f words).getD k 0) j
      = f (8 * (first + k) + j) (byteOf (words.getD k 0) j) := by
  have hw : words[k]? = some words[k] := List.getElem?_eq_getElem hk
  obtain ⟨x, hx, hbyte⟩ := mapSlotWords_at first f words k j _ hw hj
  rw [List.getD_eq_getElem?_getD, hx, List.getD_eq_getElem?_getD, hw]
  exact hbyte

/-! ### Reads of packet slots (R83, R101 to R105) -/

theorem findOutput_eq_none (s : State) (pid : Pid) : findOutput s pid = none ↔
    ∀ i : StreamNo, s.streams[i].valid = true → effectiveOutput s.streams[i] ≠ pid := by
  simp [findOutput, List.find?_eq_none]

theorem of_findOutput {pid : Pid} {x : StreamEntry} (h : findOutput s pid = some x) :
    ∃ i : StreamNo, x = s.streams[i] ∧ x.valid = true ∧ effectiveOutput x = pid := by
  obtain ⟨i, hi, rfl⟩ := Option.map_eq_some_iff.mp h
  have hfound := List.find?_some hi
  exact ⟨i, rfl, by simpa using hfound⟩

section
variable {n : ApertureNo} {base : Nat} {clearRead : InitiatorSet} {unlisted : ClearOrNull}
  (ha : p.aperture = some ⟨n, base, .packet clearRead unlisted⟩)
include ha

theorem handPacket_of_write {ws : List WriteWord} (hop : g.op = .write ws) :
    handPacket p ref g slot first s =
      if first = 0 then handOpening p n unlisted ref g slot ws s
      else handContinuation p n ref g slot first ws s := by
  simp only [handPacket, ha, hop]

theorem handPacket_of_read {k : Nat} (hop : g.op = .read k) :
    handPacket p ref g slot first s =
      if inSet clearRead p.request.initiator then handClearRead p ref g slot first s
      else handPacketRead p ref g s := by
  simp only [handPacket, ha, hop]

end

theorem handClearRead_of_entry {e : TrackerEntry} (he : findEntry s slot = some e) :
    handClearRead p ref g slot first s =
      handPacketRead p ref g (setWork ref (.clear (planFromEntry s e)) s) := by
  simp only [handClearRead, he]

theorem handClearRead_of_data (he : findEntry s slot = none) (h0 : first = 0) (h2 : 2 ≤ opLength g.op) :
    handClearRead p ref g slot first s = handPacketRead p ref g (setWork ref (.clear .fromData) s) := by
  simp only [handClearRead, he, h0, h2, and_self, if_true]

theorem handClearRead_of_fetch (he : findEntry s slot = none) (h : ¬ (first = 0 ∧ 2 ≤ opLength g.op)) :
    handClearRead p ref g slot first s =
      handAccess ⟨⟨Config.ownInitiator, p.request.tag, .read 2, slot⟩, .header ref⟩
        (setWork ref (.clear .fetching) s) := by
  simp only [handClearRead, he, if_neg h]

section
variable {h : Header}

theorem settlePlan_of_plain (hc : h.code.getLsbD 1 = false) : settlePlan s h = .ok .asStored := by
  simp only [settlePlan, hc]
  rfl

theorem settlePlan_of_malformed (hc : h.code.getLsbD 1 = true) (hm : malformed h = true) :
    settlePlan s h = .error none := by
  simp only [settlePlan, hc, hm]
  rfl

theorem settlePlan_of_no_payload (hc : h.code.getLsbD 1 = true) (hm : malformed h = false)
    (hp : payloadStart h = none) : settlePlan s h = .ok .asStored := by
  simp only [settlePlan, hc, hm, hp]
  rfl

theorem settlePlan_of_payload {start : Nat} (hc : h.code.getLsbD 1 = true) (hm : malformed h = false)
    (hp : payloadStart h = some start) : settlePlan s h = lookupKey s h start := by
  simp only [settlePlan, hc, hm, hp]
  rfl

theorem lookupKey_of_none {start : Nat} (hf : (findOutput s h.pid).bind (·.service) = none) :
    lookupKey s h start = .error none := by
  simp only [lookupKey, hf]

theorem lookupKey_of_service {start : Nat} {i : ServiceNo}
    (hf : (findOutput s h.pid).bind (·.service) = some i) :
    lookupKey s h start =
      if (keySlot s.services[i] (storedPhase h.code)).state = .empty then .error (some i)
      else .ok (.keyed ⟨(keySlot s.services[i] (storedPhase h.code)).key,
        ⟨h.stamp, h.pid, h.continuity, i.val⟩, start⟩) := by
  simp only [lookupKey, hf]

end

end Sys2Proof.Machine

namespace Sys2Proof.Proofs
open Sys2Proof Sys2Proof.Machine

/-- Settles O24: the keystream's bytes and its inverse, the manual's block, and clear reads from their handing to
their data. -/
theorem keystreamIsItsOwnInverse : Obligations.KeystreamIsItsOwnInverse := by
  refine ⟨fun key n j hj => keystream_getD key n hj,
    fun stream start first words => mapSlotWords_involutive (combine_combine stream start) first words,
    by decide +kernel, counterBlock_eq, ?_, fun s pid => ⟨findOutput_eq_none s pid, fun e => of_findOutput⟩,
    fun s h => ⟨fun hcode => ?_, fun hcode => ?_⟩, fun plan first words => ⟨?_, fun hno => ?_⟩, ?_⟩
  · rintro s p n base clearRead unlisted ref g slot first ha read rfl
    refine ⟨fun ws hop => handPacket_of_write ha hop, fun k hop => ?_⟩
    rw [handPacket_of_read ha hop]
    refine ⟨fun hout => ?_, fun hin => ⟨?_, fun hfree => ⟨fun h0 h2 => ?_, fun hno => ?_⟩⟩⟩
    · rw [hout]
      rfl
    · rintro before e after hs hbefore hslot plan hplan
      rw [hin, if_pos rfl, handClearRead_of_entry (findEntry_of_split hs hbefore hslot), hplan]
      rfl
    · rw [hin, if_pos rfl, handClearRead_of_data (findEntry_of_none hfree) h0 (by rw [hop]; exact h2)]
      rfl
    · have hlater : ¬ (first = 0 ∧ 2 ≤ opLength g.op) := by
        rw [hop]
        rintro ⟨h0, h2⟩
        exact hno.elim (fun hne => hne h0) (fun hlt => Nat.not_le.mpr hlt h2)
      rw [hin, if_pos rfl, handClearRead_of_fetch (findEntry_of_none hfree) hlater]
      rfl
  · refine settlePlan_of_plain ?_
    obtain hcode | hcode := hcode <;> rw [hcode] <;> rfl
  · have hbit : h.code.getLsbD 1 = true := by
      obtain hcode | hcode := hcode <;> rw [hcode] <;> rfl
    refine ⟨settlePlan_of_malformed hbit, settlePlan_of_no_payload hbit, fun start hm hp => ?_⟩
    rw [settlePlan_of_payload hbit hm hp]
    refine ⟨fun hf => lookupKey_of_none (by rw [hf]; rfl), fun e hf => ⟨fun hi => ?_, ?_⟩⟩
    · exact lookupKey_of_none (by rw [hf]; exact hi)
    · rintro i hi k rfl
      have hservice : (findOutput s h.pid).bind (·.service) = some i := by rw [hf]; exact hi
      rw [lookupKey_of_service hservice]
      exact ⟨fun hempty => if_pos hempty, fun hheld => if_neg hheld⟩
  · rintro d rfl
    rfl
  · cases plan with
    | keyed d => exact absurd rfl (hno d)
    | asStored => rfl
    | fromData => rfl
    | fetching => rfl
  · rintro first f words mapped rfl
    exact ⟨mapSlotWords_length first f words, fun k j hk hj => byteOf_mapSlotWords f words hk hj⟩

end Sys2Proof.Proofs
end

section
/-! SUPPORT. Records, causes, the engine's selection and the delivery of triggers (R148 to R170). -/

namespace Sys2Proof.Machine

variable {s : State} {j : JobNo}

/-! ### Records and causes (R165 to R170) -/

theorem offer_of_empty (r : CaptureRecord) (h : s.capture = []) :
    offer r s = setCause .captureReady { s with capture := [r] } := by
  simp [offer, h, Config.captureLimit]

theorem offer_of_room (r : CaptureRecord) (hne : s.capture ≠ []) (h : s.capture.length < 48) :
    offer r s = { s with capture := s.capture ++ [r] } := by
  have hlimit : s.capture.length < Config.captureLimit := h
  simp [offer, hlimit, hne]

theorem offer_of_full (r : CaptureRecord) (h : 48 ≤ s.capture.length) :
    offer r s = setCause .captureOverrun { s with overrun := true } :=
  if_neg (Nat.not_lt.mpr h)

theorem setCause_only (c : Cause) (s : State) :
    setCause c s = { s with flags := (setCause c s).flags, raised := (setCause c s).raised } := by
  unfold setCause
  dsimp only
  split <;> rfl

/-! ### Selection (R151, R152) -/

theorem engineFree_iff (s : State) : engineFree s = true ↔ ∀ j : JobNo, s.jobs[j].state ≠ .running := by
  simp [engineFree]

theorem eligible_iff (s : State) (j : JobNo) : eligible s j = true ↔
    (s.jobs[j].state = .pending ∨ s.jobs[j].state = .suspended) ∧
    (s.jobs[j].config.windowBound = true → s.time.windowOpen = true) := by
  simp only [eligible, Bool.and_eq_true, Bool.or_eq_true, decide_eq_true_eq, Bool.not_eq_true']
  cases s.jobs[j].config.windowBound <;> simp

theorem select_of_busy (h : s.jobs[j].state = .running) : select s = s := by
  refine if_neg fun hfree => ?_
  exact (engineFree_iff s).mp hfree j h

theorem fixedChoice_of_none (h : ∀ k : JobNo, k.val < s.boundary → eligible s k = false) :
    fixedChoice s = none := by
  refine List.find?_eq_none.mpr fun k _ => ?_
  by_cases hk : k.val < s.boundary
  · simp [h k hk]
  · simp [hk]

theorem fixedChoice_of_least (hj : j.val < s.boundary) (he : eligible s j = true)
    (hlt : ∀ k : JobNo, k < j → eligible s k = false) : fixedChoice s = some j := by
  refine List.find?_eq_some_iff_getElem.mpr ⟨by simp [hj, he], j.val, by simp, by simp, fun k hk => ?_⟩
  have hnot : eligible s ⟨k, hk.trans j.isLt⟩ = false := hlt ⟨k, hk.trans j.isLt⟩ hk
  have hget : (List.finRange 6)[k]'(by simpa using hk.trans j.isLt) = ⟨k, hk.trans j.isLt⟩ := by simp
  rw [hget, hnot]
  simp

theorem select_of_fixed (hfree : engineFree s = true) (h : fixedChoice s = some j) :
    select s = startRun j s := by
  simp only [select, hfree, if_true, h]

theorem select_of_round (hfree : engineFree s = true) (hfixed : fixedChoice s = none)
    (h : (roundRobinOrder s).find? (eligible s) = some j) :
    select s = startRun j { s with remembered := j } := by
  simp only [select, hfree, if_true, hfixed, h]

theorem select_of_none (h : ∀ j : JobNo, eligible s j = false) : select s = s := by
  have hfixed : fixedChoice s = none := fixedChoice_of_none fun k _ => h k
  have hround : (roundRobinOrder s).find? (eligible s) = none :=
    List.find?_eq_none.mpr fun k _ => by simp [h k]
  simp only [select, hfixed, hround, ite_self]

/-- How far a slot is behind the remembered slot in the round-robin examination (R152). -/
def examined (s : State) (j : JobNo) : Nat := (j.val + 5 - s.remembered.val) % 6

theorem examined_of_above (h : s.remembered < j) : examined s j = j.val - s.remembered.val - 1 := by
  have hlt : s.remembered.val < j.val := h
  have := j.isLt
  unfold examined
  omega

theorem examined_of_below (h : j ≤ s.remembered) : examined s j = j.val + 5 - s.remembered.val := by
  have hle : j.val ≤ s.remembered.val := h
  have := s.remembered.isLt
  unfold examined
  omega

theorem mem_roundRobinOrder (s : State) (j : JobNo) : j ∈ roundRobinOrder s ↔ s.boundary ≤ j.val := by
  simp only [roundRobinOrder, List.mem_append, List.mem_filter, List.mem_finRange, true_and,
    decide_eq_true_eq, ← and_or_left]
  exact and_iff_left (lt_or_ge s.remembered j)

theorem roundRobinOrder_pairwise (s : State) :
    (roundRobinOrder s).Pairwise fun a b => examined s a < examined s b := by
  have hsorted : ∀ f : JobNo → Bool, (((List.finRange 6).filter fun j => decide (s.boundary ≤ j.val)).filter
      f).Pairwise (· < ·) := fun f => ((List.pairwise_lt_finRange 6).filter _).filter f
  refine List.pairwise_append.mpr ⟨?_, ?_, ?_⟩
  · refine (hsorted _).imp_of_mem fun {a b} ha hb hab => ?_
    have ha' : s.remembered < a := by simpa using (List.mem_filter.mp ha).2
    have hb' : s.remembered < b := by simpa using (List.mem_filter.mp hb).2
    have hlt : a.val < b.val := hab
    have hr : s.remembered.val < a.val := ha'
    rw [examined_of_above ha', examined_of_above hb']
    omega
  · refine (hsorted _).imp_of_mem fun {a b} ha hb hab => ?_
    have ha' : a ≤ s.remembered := by simpa using (List.mem_filter.mp ha).2
    have hb' : b ≤ s.remembered := by simpa using (List.mem_filter.mp hb).2
    have hlt : a.val < b.val := hab
    have hr : b.val ≤ s.remembered.val := hb'
    have := s.remembered.isLt
    rw [examined_of_below ha', examined_of_below hb']
    omega
  · intro a ha b hb
    have ha' : s.remembered < a := by simpa using (List.mem_filter.mp ha).2
    have hb' : b ≤ s.remembered := by simpa using (List.mem_filter.mp hb).2
    have hr : s.remembered.val < a.val := ha'
    have := a.isLt
    have := s.remembered.isLt
    rw [examined_of_above ha', examined_of_below hb']
    omega

/-- In a list in strictly rising order of a key, what is found first is the least. -/
theorem find?_of_least {α : Type} {key : α → Nat} {q : α → Bool} {l : List α} {a : α}
    (hl : l.Pairwise fun x y => key x < key y) (ha : a ∈ l) (hq : q a = true)
    (hleast : ∀ x ∈ l, q x = true → key a ≤ key x) : l.find? q = some a := by
  induction l with
  | nil => cases ha
  | cons x l ih =>
    obtain ⟨hx, hrest⟩ := List.pairwise_cons.mp hl
    obtain rfl | hmem := List.mem_cons.mp ha
    · exact List.find?_cons_of_pos hq
    · have hno : ¬ q x = true := fun hqx =>
        absurd (hx a hmem) (Nat.not_lt.mpr (hleast x List.mem_cons_self hqx))
      rw [List.find?_cons_of_neg hno]
      exact ih hrest hmem fun y hy => hleast y (List.mem_cons_of_mem _ hy)

/-! ### Requests (R156 to R159) -/

theorem fillWords_of_plain {pattern : Word} {address : Addr} {n : Nat}
    (h : ∀ i : ApertureNo, findAperture s address = some i → s.apertures[i].view ≠ .packet) :
    fillWords s pattern address n = List.replicate n pattern := by
  unfold fillWords
  split
  · rfl
  · rename_i i hi
    dsimp only
    split
    · exact absurd (by assumption) (h i hi)
    · rfl
    · rfl

theorem fillWords_of_packet {pattern : Word} {address : Addr} {n : Nat} {i : ApertureNo}
    (hi : findAperture s address = some i) (hv : s.apertures[i].view = .packet) :
    fillWords s pattern address n = (List.range n).map fun k => wordOf ((List.range 8).map fun b =>
      nullByte (8 * slotWord s.apertures[i].base (rangeAddress address k) + b) 0) := by
  simp only [fillWords, hi, hv]

theorem nullByte_zero (n : Nat) : nullByte n 0 =
    if n < 4 then 0x00 else if n = 4 then 0x47 else if n = 5 then 0x1F else if n = 6 then 0xFF
    else if n = 7 then 0x10 else 0xFF := by
  split
  case isTrue h => exact nullByte_of_lt 0 h
  case isFalse h => exact nullByte_of_le 0 (Nat.le_of_not_lt h)

theorem byteOf_fillWords {pattern : Word} {address : Addr} {n k m : Nat} {i : ApertureNo}
    (hi : findAperture s address = some i) (hv : s.apertures[i].view = .packet) (hk : k < n) (hm : m < 8) :
    byteOf ((fillWords s pattern address n).getD k 0) m =
      nullByte (8 * slotWord s.apertures[i].base (rangeAddress address k) + m) 0 := by
  rw [fillWords_of_packet hi hv, List.getD_eq_getElem?_getD, List.getElem?_map, List.getElem?_range hk]
  simp only [Option.map_some, Option.getD_some]
  rw [byteOf_wordOf _ _ hm, List.getD_eq_getElem?_getD, List.getElem?_map, List.getElem?_range hm]
  rfl

/-! ### Triggers (R148, R149) -/

/-- A slot that is not DISABLED or IDLE loses a trigger (R149). -/
def JobSlot.busy (v : JobSlot) : Prop := v.state = .pending ∨ v.state = .running ∨ v.state = .suspended

/-- A slot that a trigger reached (R149). -/
def triggered (v : JobSlot) : JobSlot :=
  match v.state with
  | .idle => { v with state := .pending, cursor := 0, digest := digestStart, swept := 0 }
  | .pending | .running | .suspended => { v with overflow := true }
  | .disabled => v

theorem triggered_of_idle {v : JobSlot} (h : v.state = .idle) :
    triggered v = { v with state := .pending, cursor := 0, digest := digestStart, swept := 0 } := by
  simp only [triggered, h]

theorem triggered_of_disabled {v : JobSlot} (h : v.state = .disabled) : triggered v = v := by
  simp only [triggered, h]

theorem triggered_of_busy {v : JobSlot} (h : v.busy) : triggered v = { v with overflow := true } := by
  obtain h | h | h := h <;> simp only [triggered, h]

theorem triggerSlot_of_disabled (h : s.jobs[j].state = .disabled) : triggerSlot j s = s := by
  simp only [triggerSlot, h]

theorem triggerSlot_of_idle (h : s.jobs[j].state = .idle) : triggerSlot j s =
    putJob j { s.jobs[j] with state := .pending, cursor := 0, digest := digestStart, swept := 0 } s := by
  simp only [triggerSlot, h]

theorem triggerSlot_of_busy (h : s.jobs[j].busy) : triggerSlot j s =
    setCause .triggerOverflow (putJob j { s.jobs[j] with overflow := true } s) := by
  obtain h | h | h := h <;> simp only [triggerSlot, h]

theorem JobSlot.cases_state (v : JobSlot) : v.state = .disabled ∨ v.state = .idle ∨ v.busy := by
  unfold JobSlot.busy
  cases v.state <;> simp

theorem JobSlot.not_busy {v : JobSlot} (h : v.state = .disabled ∨ v.state = .idle) : ¬ v.busy := by
  unfold JobSlot.busy
  obtain h | h := h <;> simp [h]

/-- What the delivery of a trigger to some slots has made of a state: each of them configured for it is
reached, and a lost trigger sets its cause (R148, R149). -/
structure Delivered (trigger : Trigger) (l : List JobNo) (s t : State) : Prop where
  reached : ∀ j : JobNo, t.jobs[j] =
    if j ∈ l ∧ s.jobs[j].config.trigger = trigger then triggered s.jobs[j] else s.jobs[j]
  flags   : ∀ c, flagOf t c = true ↔ flagOf s c = true ∨
    (c = .triggerOverflow ∧ ∃ j ∈ l, s.jobs[j].config.trigger = trigger ∧ s.jobs[j].busy)
  raised  : ∀ g, raisedOf t g = true ↔ raisedOf s g = true ∨
    (g = .jobs ∧ enableOf s .triggerOverflow = true ∧
      ∃ j ∈ l, s.jobs[j].config.trigger = trigger ∧ s.jobs[j].busy)
  only    : t = { s with jobs := t.jobs, flags := t.flags, raised := t.raised }

theorem Delivered.nil (trigger : Trigger) (s : State) : Delivered trigger [] s s :=
  ⟨fun j => by simp, fun c => by simp, fun g => by simp, rfl⟩

theorem jobs_putJob (j k : JobNo) (v : JobSlot) (s : State) :
    (putJob j v s).jobs[k] = if k = j then v else s.jobs[k] := by
  by_cases h : k = j
  · subst h
    simp [putJob]
  · have hne : j.val ≠ k.val := fun heq => h (Fin.ext heq.symm)
    simp [putJob, h, Vector.getElem_set_ne, hne]

theorem putJob_self (j : JobNo) (s : State) : putJob j s.jobs[j] s = s := by
  simp [putJob]

theorem triggerSlot_delivered (trigger : Trigger) (h : s.jobs[j].config.trigger = trigger) :
    Delivered trigger [j] s (triggerSlot j s) := by
  have hput : ∀ k : JobNo, (putJob j (triggered s.jobs[j]) s).jobs[k] =
      if k ∈ [j] ∧ s.jobs[k].config.trigger = trigger then triggered s.jobs[k] else s.jobs[k] := fun k => by
    rw [jobs_putJob]
    by_cases hk : k = j
    · subst hk
      simp [-Fin.getElem_fin, h]
    · simp [hk]
  obtain hd | hi | hb := s.jobs[j].cases_state
  · have hno := JobSlot.not_busy (.inl hd)
    have hsame : putJob j (triggered s.jobs[j]) s = s := by rw [triggered_of_disabled hd, putJob_self]
    rw [triggerSlot_of_disabled hd]
    rw [hsame] at hput
    exact ⟨hput, fun c => by simp [-Fin.getElem_fin, hno], fun g => by simp [-Fin.getElem_fin, hno], rfl⟩
  · have hno := JobSlot.not_busy (.inr hi)
    rw [triggerSlot_of_idle hi]
    rw [triggered_of_idle hi] at hput
    exact ⟨hput, fun c => by simp [-Fin.getElem_fin, hno, putJob, flagOf],
      fun g => by simp [-Fin.getElem_fin, hno, putJob, raisedOf], rfl⟩
  · rw [triggerSlot_of_busy hb]
    rw [triggered_of_busy hb] at hput
    refine ⟨fun k => ?_, fun c => ?_, fun g => ?_, ?_⟩
    · rw [setCause_jobs]
      exact hput k
    · rw [flagOf_setCause]
      simp [-Fin.getElem_fin, h, hb, putJob, flagOf]
    · rw [raisedOf_setCause, Bool.or_eq_true, Bool.and_eq_true, decide_eq_true_iff]
      simp [-Fin.getElem_fin, h, hb, putJob, raisedOf, enableOf, causeGroup]
    · rw [setCause_only]
      rfl

theorem Delivered.skip {trigger : Trigger} (h : s.jobs[j].config.trigger ≠ trigger) :
    Delivered trigger [j] s s := by
  refine ⟨fun k => ?_, fun c => by simp [-Fin.getElem_fin, h], fun g => by simp [-Fin.getElem_fin, h], rfl⟩
  by_cases hk : k = j
  · subst hk
    simp [-Fin.getElem_fin, h]
  · simp [hk]

/-- Deliveries to a slot and then to others, which the first leaves. -/
theorem Delivered.cons {trigger : Trigger} {l : List JobNo} {t u : State} (hj : j ∉ l)
    (h : Delivered trigger [j] s t) (h' : Delivered trigger l t u) : Delivered trigger (j :: l) s u := by
  have hrest : ∀ k ∈ l, t.jobs[k] = s.jobs[k] := fun k hk => by
    have hne : k ≠ j := fun heq => hj (heq ▸ hk)
    rw [h.reached k]
    simp [hne]
  have henable : enableOf t .triggerOverflow = enableOf s .triggerOverflow := by
    rw [h.only]
    rfl
  have hlost : (∃ k ∈ l, t.jobs[k].config.trigger = trigger ∧ t.jobs[k].busy) ↔
      ∃ k ∈ l, s.jobs[k].config.trigger = trigger ∧ s.jobs[k].busy :=
    exists_congr fun k => and_congr_right fun hk => by rw [hrest k hk]
  refine ⟨fun k => ?_, fun c => ?_, fun g => ?_, ?_⟩
  · rw [h'.reached k]
    by_cases hk : k ∈ l
    · rw [hrest k hk]
      simp [hk]
    · rw [h.reached k]
      simp [hk]
  · rw [h'.flags, h.flags, hlost]
    simp only [List.mem_cons, List.not_mem_nil, or_false, exists_eq_or_imp, exists_eq_left]
    tauto
  · rw [h'.raised, h.raised, hlost, henable]
    simp only [List.mem_cons, List.not_mem_nil, or_false, exists_eq_or_imp, exists_eq_left]
    tauto
  · have h1 := h.only
    have h2 := h'.only
    rw [h1] at h2
    exact h2

/-- A trigger is delivered slot by slot (R148). -/
theorem foldl_delivered (trigger : Trigger) (l : List JobNo) (hl : l.Nodup) (s : State) :
    Delivered trigger l s (l.foldl
      (fun s j => if s.jobs[j].config.trigger = trigger then triggerSlot j s else s) s) := by
  induction l generalizing s with
  | nil => exact Delivered.nil trigger s
  | cons j l ih =>
    obtain ⟨hj, hrest⟩ := List.nodup_cons.mp hl
    rw [List.foldl_cons]
    refine Delivered.cons hj ?_ (ih hrest _)
    split
    case isTrue h => exact triggerSlot_delivered trigger h
    case isFalse h => exact Delivered.skip h

theorem deliver_delivered (trigger : Trigger) (s : State) :
    Delivered trigger (List.finRange 6) s (deliver trigger s) :=
  foldl_delivered trigger _ (List.nodup_finRange 6) s

end Sys2Proof.Machine

namespace Sys2Proof.Proofs
open Sys2Proof Sys2Proof.Machine

/-- Settles O25: a record joins the queue or is lost, and a cause sets its flag and raises its group. -/
theorem reportsAreRecorded : Obligations.ReportsAreRecorded :=
  ⟨fun _ r => ⟨offer_of_empty r, offer_of_room r, offer_of_full r⟩,
    fun s c => ⟨_, rfl, fun d => flagOf_setCause c d s, fun g => raisedOf_setCause c g s, setCause_only c s⟩⟩

/-- Settles O27: the engine's choice, its requests, and the words of a FILL. -/
theorem selectionFollowsTheExamination : Obligations.SelectionFollowsTheExamination := by
  refine ⟨fun s => ⟨fun j hj => select_of_busy hj, select_of_none, eligible_iff s, ?_⟩, ?_, ?_⟩
  · rintro hidle j he start rfl
    have hfree := (engineFree_iff s).mpr hidle
    refine ⟨fun hj hlt => ?_, fun hj hnone hleast => ?_⟩
    · rw [select_of_fixed hfree (fixedChoice_of_least hj he hlt)]
      rfl
    · have hround : (roundRobinOrder s).find? (eligible s) = some j := by
        refine find?_of_least (roundRobinOrder_pairwise s) ((mem_roundRobinOrder s j).mpr hj) he ?_
        exact fun k hk hek => hleast k ((mem_roundRobinOrder s k).mp hk) hek
      rw [select_of_round hfree (fixedChoice_of_none hnone) hround]
      rfl
  · rintro s j c left source target room rfl rfl rfl rfl rfl request rfl
    refine ⟨fun hk => ?_, fun hk => ?_, fun hk => ?_, fun hk => ?_⟩
    all_goals
      simp only [firstRequest, hk]
      rfl
  · rintro s pattern address n words rfl
    refine ⟨?_, fillWords_of_plain, ?_⟩
    · by_cases hplain : ∀ i : ApertureNo, findAperture s address = some i → s.apertures[i].view ≠ .packet
      · rw [fillWords_of_plain hplain, List.length_replicate]
      · push Not at hplain
        obtain ⟨i, hi, hv⟩ := hplain
        rw [fillWords_of_packet hi hv, List.length_map, List.length_range]
    · rintro i hi hv k m hk hm b rfl
      rw [byteOf_fillWords hi hv hk hm, nullByte_zero, Nat.mul_comm 8]
      rfl

/-- Settles O28: a trigger's effect on each slot, by its state, and on the causes. -/
theorem triggersReachTheirSlots : Obligations.TriggersReachTheirSlots := by
  rintro busy rfl
  refine ⟨?_, fun s trigger => ⟨_, rfl, ?_⟩⟩
  · rintro s j v rfl
    exact ⟨triggerSlot_of_disabled, triggerSlot_of_idle, triggerSlot_of_busy⟩
  · have h := deliver_delivered trigger s
    have hmem : ∀ j : JobNo, j ∈ List.finRange 6 := List.mem_finRange
    refine ⟨?_, ?_, fun c hc => ?_, h.only⟩
    · rintro j v rfl
      have hj := h.reached j
      refine ⟨fun hno => ?_, fun htrigger hidle => ?_, fun htrigger hbusy => ?_⟩
      · rw [hj]
        obtain hne | hd := hno
        · rw [if_neg fun hboth => hne hboth.2]
        · rw [triggered_of_disabled hd, ite_self]
      · rw [hj, if_pos ⟨hmem j, htrigger⟩]
        exact triggered_of_idle hidle
      · rw [hj, if_pos ⟨hmem j, htrigger⟩]
        exact triggered_of_busy hbusy
    · rintro lost rfl
      refine ⟨(h.flags _).trans (or_congr_right ?_), fun g => (h.raised g).trans (or_congr_right ?_)⟩
      · exact ⟨fun ⟨_, k, _, hk⟩ => ⟨k, hk⟩, fun ⟨k, hk⟩ => ⟨rfl, k, hmem k, hk⟩⟩
      · exact ⟨fun ⟨hg, hen, k, _, hk⟩ => ⟨⟨k, hk⟩, hg, hen⟩,
          fun ⟨⟨k, hk⟩, hg, hen⟩ => ⟨hg, hen, k, hmem k, hk⟩⟩
    · rw [Bool.eq_iff_iff, h.flags]
      exact ⟨fun hor => hor.resolve_right fun hboth => hc hboth.1, .inl⟩

end Sys2Proof.Proofs
end

section
/-! SUPPORT. The digest, the stopping points of a run, and what a response does by the run's phase
(R153 to R160). -/

namespace Sys2Proof.Machine

variable {s : State} {j : JobNo} {x v : JobSlot} {next : State → JobPhase × Request} {r : JobRun}
  {data : List Word}

/-! ### A job slot's new contents -/

theorem putJob_putJob (j : JobNo) (v w : JobSlot) (s : State) : putJob j v (putJob j w s) = putJob j v s := by
  simp [putJob]

theorem job_putJob (j : JobNo) (v : JobSlot) (s : State) : (putJob j v s).jobs[j] = v := by
  rw [jobs_putJob, if_pos rfl]

/-! ### The end of a run and its stopping points (R146, R153 to R155, R160) -/

theorem resultOf_eq (v : JobSlot) (st : JobStatus) (fault : Option (Status × Addr)) : resultOf v st fault =
    ⟨st, v.cursor, if v.config.kind = .sweep then v.swept else 0,
      if st = .done ∧ v.config.kind = .digest then ~~~v.digest else 0, fault⟩ := by
  simp only [resultOf, and_comm]

theorem endRun_eq (j : JobNo) (st : JobStatus) (fault : Option (Status × Addr)) (x : JobSlot) (s : State) :
    endRun j st fault (putJob j x s) = { s with
      run := none
      jobs := s.jobs.set j { x with
        state  := if x.config.enable then .idle else .disabled
        result := resultOf x st fault } } := by
  unfold endRun
  dsimp only
  rw [job_putJob, putJob_putJob]
  rfl

theorem suspendRun_eq (j : JobNo) (x : JobSlot) (s : State) : suspendRun j (putJob j x s) =
    select { s with run := none, jobs := s.jobs.set j { x with state := .suspended } } := by
  unfold suspendRun
  rw [job_putJob, putJob_putJob]
  rfl

theorem windowStops_iff (v : JobSlot) (s : State) : windowStops v s = true ↔
    v.config.enable = true ∧ v.config.windowBound = true ∧ s.time.windowOpen = false := by
  simp [windowStops, and_assoc]

theorem stoppingPoint_of_done (h : s.jobs[j].config.length ≤ s.jobs[j].cursor) :
    stoppingPoint j next s = completeRun j s := if_pos h

theorem stoppingPoint_of_aborted (h : s.jobs[j].cursor < s.jobs[j].config.length)
    (he : s.jobs[j].config.enable = false) : stoppingPoint j next s = select (abortRun j s) := by
  simp only [stoppingPoint, if_neg (Nat.not_le.mpr h), he]
  rfl

theorem stoppingPoint_of_suspended (h : s.jobs[j].cursor < s.jobs[j].config.length)
    (hw : windowStops s.jobs[j] s = true) : stoppingPoint j next s = suspendRun j s := by
  have he := ((windowStops_iff _ _).mp hw).1
  simp only [stoppingPoint, if_neg (Nat.not_le.mpr h), he, hw]
  rfl

theorem stoppingPoint_of_next (h : s.jobs[j].cursor < s.jobs[j].config.length)
    (he : s.jobs[j].config.enable = true) (hw : ¬ windowStops s.jobs[j] s = true) :
    stoppingPoint j next s = present j (next s) s := by
  simp only [stoppingPoint, if_neg (Nat.not_le.mpr h), he, if_neg hw]
  rfl

/-- What a stopping point of a slot with new contents `x` makes of a run, in each of its four outcomes:
the ends DONE and ABORTED as `ended` writes them, the suspension, and the next request (R153). -/
def StopsAt (s : State) (j : JobNo) (x : JobSlot) (next : State → JobPhase × Request)
    (ended : JobSlot → JobStatus → State) (result : State) : Prop :=
  (x.config.length ≤ x.cursor →
    result = select (deliver (.done j) (setCause .jobDone (ended x .done)))) ∧
  (x.cursor < x.config.length → x.config.enable = false →
    result = select (setCause .jobAborted (ended x .aborted))) ∧
  (x.cursor < x.config.length → x.config.enable = true → x.config.windowBound = true →
    s.time.windowOpen = false →
    result = select { s with run := none, jobs := s.jobs.set j { x with state := .suspended } }) ∧
  (x.cursor < x.config.length → x.config.enable = true →
    x.config.windowBound = false ∨ s.time.windowOpen = true →
    ∀ w, w = putJob j x s → result = present j (next w) w)

theorem stopsAt_stoppingPoint {ended : JobSlot → JobStatus → State}
    (hended : ∀ st, ended x st = endRun j st none (putJob j x s)) :
    StopsAt s j x next ended (stoppingPoint j next (putJob j x s)) := by
  have hx := job_putJob j x s
  refine ⟨fun hlen => ?_, fun hlen he => ?_, fun hlen he hb hw => ?_, fun hlen he hw => ?_⟩
  · rw [stoppingPoint_of_done (by rwa [hx]), hended]
    rfl
  · rw [stoppingPoint_of_aborted (by rwa [hx]) (by rwa [hx]), hended]
    rfl
  · rw [stoppingPoint_of_suspended (by rwa [hx]), suspendRun_eq]
    rw [hx, windowStops_iff]
    exact ⟨he, hb, hw⟩
  · rintro w rfl
    refine stoppingPoint_of_next (by rwa [hx]) (by rwa [hx]) ?_
    rw [hx, windowStops_iff]
    rintro ⟨-, hb, hclosed⟩
    have hclosed' : s.time.windowOpen = false := hclosed
    simp [hb, hclosed'] at hw

/-! ### What a SWEEP rewrites (R158) -/

theorem sweepRewrites_iff (s : State) (unit : List Word) : sweepRewrites s unit = true ↔
    (headerOf (unit.getD 0 0) (unit.getD 1 0)).code = 0#2 ∧ ∃ (e : StreamEntry) (i : ServiceNo),
      findInput s (headerOf (unit.getD 0 0) (unit.getD 1 0)).pid = some e ∧ e.treatment = .scramble ∧
      e.service = some i ∧ (s.services[i].state = .running ∨ s.services[i].state = .starved) := by
  unfold sweepRewrites
  dsimp only
  rw [Bool.and_eq_true, beq_iff_eq]
  refine and_congr_right fun _ => ?_
  cases hf : findInput s (headerOf (unit.getD 0 0) (unit.getD 1 0)).pid with
  | none => simp
  | some e =>
    cases ht : e.treatment <;> cases hi : e.service <;> simp [ht, hi]

/-! ### A response by the run's phase (R154, R156 to R159) -/

theorem jobResponse_of_failed {st : Status} (hrun : s.run = some r) (h : st = .refused ∨ st = .fault)
    (a : Option ApertureNo) : jobResponse st data a s = faultRun r.slot st r.request a s := by
  obtain rfl | rfl := h <;> simp only [jobResponse, hrun]

theorem jobResponse_of_done (hrun : s.run = some r) (a : Option ApertureNo) :
    jobResponse .done data a s = jobDone r data s := by
  simp only [jobResponse, hrun]

theorem advance_putJob (j : JobNo) (n : Nat) (x : JobSlot) (s : State) :
    advance j n (putJob j x s) = putJob j { x with cursor := x.cursor + n } s := by
  rw [advance, job_putJob, putJob_putJob]

theorem jobDone_of_write (h : r.phase = .fillWrite ∨ r.phase = .convertWrite) :
    jobDone r data s = stoppingPoint r.slot (fun t => firstRequest t r.slot) (putJob r.slot
      { s.jobs[r.slot] with cursor := s.jobs[r.slot].cursor + opLength r.request.op } s) := by
  obtain h | h := h <;> simp only [jobDone, h] <;> rfl

theorem jobDone_of_digest (h : r.phase = .digestRead) :
    jobDone r data s = stoppingPoint r.slot (fun t => firstRequest t r.slot) (putJob r.slot
      { s.jobs[r.slot] with
        cursor := s.jobs[r.slot].cursor + opLength r.request.op
        digest := digestWords s.jobs[r.slot].digest data } s) := by
  simp only [jobDone, h, advance_putJob]

theorem jobDone_of_convert (h : r.phase = .convertRead) :
    jobDone r data s = stoppingPoint r.slot (fun _ => (.convertWrite, jobRequest r.slot (fullWrite data)
      (rangeAddress s.jobs[r.slot].config.target s.jobs[r.slot].cursor)))
      (putJob r.slot s.jobs[r.slot] s) := by
  simp only [jobDone, h, putJob_self]

/-- The first part of the unit at a slot's cursor (R158). -/
def unitPart (v : JobSlot) : Nat := firstPart (rangeAddress v.config.target v.cursor)

theorem jobDone_of_sweepFirst (h : r.phase = .sweepFirst) :
    jobDone r data s = stoppingPoint r.slot (fun _ => (.sweepSecond data, jobRequest r.slot
        (.read (Config.slotWords - unitPart s.jobs[r.slot]))
        (rangeAddress (rangeAddress s.jobs[r.slot].config.target s.jobs[r.slot].cursor)
          (unitPart s.jobs[r.slot]))))
      (putJob r.slot s.jobs[r.slot] s) := by
  simp only [jobDone, h, putJob_self]
  rfl

theorem jobDone_of_rewritten {first : List Word} (h : r.phase = .sweepSecond first)
    (hr : sweepRewrites s (first ++ data) = true) :
    jobDone r data s = stoppingPoint r.slot (fun _ => (.sweepOpening (first ++ data), jobRequest r.slot
        (fullWrite ((first ++ data).take (unitPart s.jobs[r.slot])))
        (rangeAddress s.jobs[r.slot].config.target s.jobs[r.slot].cursor)))
      (putJob r.slot s.jobs[r.slot] s) := by
  simp only [jobDone, h, putJob_self, hr]
  rfl

theorem jobDone_of_held {first : List Word} (h : r.phase = .sweepSecond first)
    (hr : ¬ sweepRewrites s (first ++ data) = true) (hw : windowStops s.jobs[r.slot] s = true)
    (hlen : s.jobs[r.slot].cursor + 24 < s.jobs[r.slot].config.length) :
    jobDone r data s = suspendRun r.slot (putJob r.slot s.jobs[r.slot] s) := by
  have hlen' : s.jobs[r.slot].cursor + Config.slotWords < s.jobs[r.slot].config.length := hlen
  simp only [jobDone, h, putJob_self, if_neg hr, hw, decide_eq_true hlen']
  rfl

theorem jobDone_of_skipped {first : List Word} (h : r.phase = .sweepSecond first)
    (hr : ¬ sweepRewrites s (first ++ data) = true)
    (hno : ¬ (windowStops s.jobs[r.slot] s = true ∧
      s.jobs[r.slot].cursor + 24 < s.jobs[r.slot].config.length)) :
    jobDone r data s = stoppingPoint r.slot (fun t => firstRequest t r.slot) (putJob r.slot
      { s.jobs[r.slot] with cursor := s.jobs[r.slot].cursor + 24 } s) := by
  have hno' : ¬ (windowStops s.jobs[r.slot] s &&
      decide (s.jobs[r.slot].cursor + Config.slotWords < s.jobs[r.slot].config.length)) = true := by
    rw [Bool.and_eq_true, decide_eq_true_iff]
    exact hno
  simp only [jobDone, h, if_neg hr, if_neg hno']
  rfl

theorem jobDone_of_opening {unit : List Word} (h : r.phase = .sweepOpening unit) :
    jobDone r data s = present r.slot (.sweepContinuation, jobRequest r.slot
      (fullWrite (unit.drop (unitPart s.jobs[r.slot])))
      (rangeAddress (rangeAddress s.jobs[r.slot].config.target s.jobs[r.slot].cursor)
        (unitPart s.jobs[r.slot]))) s := by
  simp only [jobDone, h]
  rfl

theorem jobDone_of_continuation (h : r.phase = .sweepContinuation) :
    jobDone r data s = stoppingPoint r.slot (fun t => firstRequest t r.slot) (putJob r.slot
      { s.jobs[r.slot] with
        cursor := s.jobs[r.slot].cursor + 24
        swept := s.jobs[r.slot].swept + 1 } s) := by
  simp only [jobDone, h, advance_putJob]
  rfl

theorem faultRun_eq (j : JobNo) (st : Status) (q : Request) (a : Option ApertureNo) (s : State) :
    faultRun j st q a s = select (setCause .jobFault (offer
      ⟨.jobFault, 15, opKind q.op, q.address, s.time.tickCount.setWidth 16, a, none, none, none, some j⟩
      (endRun j .faulted (some (st, q.address)) (putJob j s.jobs[j] s)))) := by
  rw [putJob_self]
  rfl

end Sys2Proof.Machine

namespace Sys2Proof.Proofs
open Sys2Proof Sys2Proof.Machine

/-- Settles O29: the digest, the FAULTED end, and the run after a DONE response, phase by phase. -/
theorem jobResponsesMoveTheRun : Obligations.JobResponsesMoveTheRun := by
  refine ⟨?_, ?_⟩
  · rintro shift rfl take rfl
    exact ⟨fun c words => rfl, by decide +kernel⟩
  · rintro s r data a hrun j v rfl rfl back rfl
    refine ⟨?_, ?_⟩
    · intro st hst
      rw [jobResponse_of_failed hrun hst, faultRun_eq, endRun_eq, resultOf_eq]
      rfl
    · intro ended hended
      have hend : ∀ x : JobSlot, x.config = s.jobs[r.slot].config → ∀ st,
          ended x st = endRun r.slot st none (putJob r.slot x s) := fun x hx st => by
        rw [hended, endRun_eq, resultOf_eq]
        dsimp only
        rw [hx]
      rintro stops rfl target k rfl rfl request rfl whole rfl onward rfl
      have hstops : ∀ {x : JobSlot} {next : State → JobPhase × Request},
          jobDone r data s = stoppingPoint r.slot next (putJob r.slot x s) →
          x.config = s.jobs[r.slot].config →
          StopsAt s r.slot x next ended (jobResponse .done data a s) := fun {x next} hdone hx => by
        rw [jobResponse_of_done hrun, hdone]
        exact stopsAt_stoppingPoint (hend x hx)
      refine ⟨fun h => ?_, fun h => ?_, fun h => ?_, fun h => ?_, ?_, fun unit h => ?_, fun h => ?_⟩
      · exact hstops (jobDone_of_write h) rfl
      · exact hstops (jobDone_of_digest h) rfl
      · exact hstops (jobDone_of_convert h) rfl
      · exact hstops (jobDone_of_sweepFirst h) rfl
      · rintro first unit header h rfl rfl rewritten rfl
        have hrewrites := sweepRewrites_iff s (first ++ data)
        refine ⟨fun hr => ?_, ?_⟩
        · exact hstops (jobDone_of_rewritten h (hrewrites.mpr hr)) rfl
        · rintro held rfl
          have hwindow := windowStops_iff s.jobs[r.slot] s
          refine ⟨fun hr hheld => ?_, fun hr hheld => ?_⟩
          · obtain ⟨hlen, hstop⟩ := hheld
            rw [jobResponse_of_done hrun,
              jobDone_of_held h (fun hk => hr (hrewrites.mp hk)) (hwindow.mpr hstop) hlen, suspendRun_eq]
          · exact hstops (jobDone_of_skipped h
              (fun hk => hr (hrewrites.mp hk)) fun hk => hheld ⟨hk.2, hwindow.mp hk.1⟩) rfl
      · rw [jobResponse_of_done hrun, jobDone_of_opening h]
        rfl
      · exact hstops (jobDone_of_continuation h) rfl

end Sys2Proof.Proofs
end

section
/-! SUPPORT. What a tick makes due and how it is carried out, and the events of the inputs, case by case
(R97, R117 to R124, R130 to R141, R160). -/

namespace Sys2Proof.Machine

variable {s : State} {i : ServiceNo} {p : Phase}

/-! ### Events of the running part (R180) -/

theorem exec_idleClose (h : s.inReset = false) :
    exec .idleClose s = .next (if s.tickOpen then closeFirstAged s else s) :=
  congrArg Host.Outcome.next (whenRunning_running h)

theorem exec_retirement (i : ServiceNo) (p : Phase) (h : s.inReset = false) :
    exec (.retirement i p) s = .next (retire i p s) :=
  congrArg Host.Outcome.next (whenRunning_running h)

theorem exec_expiry (i : ServiceNo) (h : s.inReset = false) :
    exec (.expiry i) s = .next (actOnExpiry i s) :=
  congrArg Host.Outcome.next (whenRunning_running h)

theorem exec_referenceQualified (h : s.inReset = false) :
    exec .referenceQualified s = .next (qualify s) :=
  congrArg Host.Outcome.next (whenRunning_running h)

theorem exec_holdoverEnd (h : s.inReset = false) : exec .holdoverEnd s = .next (endHoldover s) :=
  congrArg Host.Outcome.next (whenRunning_running h)

theorem ByKeys.inReset {t : State} (h : ByKeys s t) : t.inReset = s.inReset := by
  obtain ⟨_, _, _, _, _, rfl⟩ := h; rfl

theorem ByTracker.inReset {t : State} (h : ByTracker s t) : t.inReset = s.inReset := by
  obtain ⟨_, _, _, _, _, _, rfl⟩ := h; rfl

theorem ByTick.inReset {t : State} (h : ByTick s t) : t.inReset = s.inReset := by
  obtain ⟨_, _, _, _, _, _, _, _, _, _, _, _, rfl⟩ := h; rfl

/-! ### What a tick makes due (R97, R119, R123, R134, R135) -/

theorem aged_iff (s : State) (e : TrackerEntry) :
    aged s e = true ↔ s.idleLimit < (s.time.tickCount - e.lastWrite).toNat := by
  simp [aged]

theorem closeFirstAged_of_first {before after : List TrackerEntry} {e : TrackerEntry}
    (hs : s.tracker = before ++ e :: after) (hbefore : ∀ x ∈ before, ¬ aged s x = true)
    (he : aged s e = true) : closeFirstAged s = abandon .idle e s := by
  have hfind : s.tracker.find? (aged s) = some e := by
    rw [List.find?_eq_some_iff_append]
    exact ⟨he, before, after, hs, fun x hx => by simpa using hbefore x hx⟩
  simp only [closeFirstAged, hfind]

theorem closeFirstAged_of_none (h : ∀ x ∈ s.tracker, ¬ aged s x = true) : closeFirstAged s = s := by
  have hfind : s.tracker.find? (aged s) = none := List.find?_eq_none.mpr h
  simp only [closeFirstAged, hfind]

theorem retire_of_retiring {k : KeySlot} (hk : k = keySlot s.services[i] p) (hr : k.state = .retiring)
    (hage : s.services[i].guard ≤ k.age) (hu : k.users = 0) :
    retire i p s = putService i (withKeySlot p ⟨.empty, zeroKey, 0, k.age⟩ s.services[i]) s := by
  subst hk
  rw [retire_of_due ((retireDue_iff _ _).mpr ⟨hr, hage, hu⟩), emptied, hu]

theorem retire_of_not_retiring {k : KeySlot} (hk : k = keySlot s.services[i] p)
    (h : k.state ≠ .retiring ∨ k.age < s.services[i].guard ∨ k.users ≠ 0) : retire i p s = s := by
  subst hk
  refine retire_of_not_due fun hdue => ?_
  obtain ⟨hr, hage, hu⟩ := (retireDue_iff _ _).mp hdue
  exact h.elim (fun hne => hne hr) (fun hor => hor.elim (fun hlt => Nat.not_le.mpr hlt hage) (fun hne => hne hu))

theorem actOnExpiry_of_not_mem (h : i ∉ s.expiring) : actOnExpiry i s = s :=
  if_neg (by simpa using h)

theorem actOnExpiry_of_mem (h : i ∈ s.expiring) :
    actOnExpiry i s = expire i (retireBoth i { s with expiring := s.expiring.erase i }) :=
  if_pos (by simpa using h)

theorem counting_iff (v : Service) : counting v = true ↔ v.state = .running ∨ v.state = .starved := by
  simp [counting]

theorem expire_of_stopped (h : s.services[i].state = .idle ∨ s.services[i].state = .withholding) :
    expire i s = s := by
  have hno : counting s.services[i] = false := by
    obtain h | h := h <;> rw [counting, h] <;> rfl
  unfold expire
  dsimp only
  rw [hno]
  rfl

section
variable (hc : s.services[i].state = .running ∨ s.services[i].state = .starved)
include hc

theorem expire_of_ready (hn : nextState s.services[i] = some .ready) : expire i s = flipService i s := by
  unfold expire
  dsimp only
  rw [(counting_iff _).mpr hc, if_pos hn]
  rfl

theorem expire_of_extension (hn : nextState s.services[i] ≠ some .ready)
    (he : s.services[i].extension < s.services[i].limit) :
    expire i s = setCause .starved (putService i { s.services[i] with
      state := .starved
      extension := s.services[i].extension + 1
      counter := s.services[i].period } s) := by
  unfold expire
  dsimp only
  rw [(counting_iff _).mpr hc, if_neg hn, if_pos he]
  rfl

theorem expire_of_limit (hn : nextState s.services[i] ≠ some .ready)
    (he : s.services[i].limit ≤ s.services[i].extension) :
    expire i s = setCause .withholding (putService i { s.services[i] with
      state := .withholding
      counter := 0 } s) := by
  unfold expire
  dsimp only
  rw [(counting_iff _).mpr hc, if_neg hn, if_neg (Nat.not_lt.mpr he)]
  rfl

end

theorem flipService_of_active (h : activePhase s.services[i] = some p) :
    flipService i s = select (deliver (.flip i) (putService i (flipped p s.services[i]) s)) := by
  simp only [flipService, h]

theorem flipService_of_none (h : activePhase s.services[i] = none) : flipService i s = s := by
  simp only [flipService, h]

theorem qualify_of_acquired (h : s.time.state = .acquiring) (hq : 64 ≤ s.time.qualification) :
    qualify s = setCause .locked { s with
      time := { s.time with state := .locked, hold := false, qualification := 0 } } :=
  if_pos ⟨h, hq⟩

theorem qualify_of_not (h : s.time.state ≠ .acquiring ∨ s.time.qualification < 64) : qualify s = s :=
  if_neg fun hboth => h.elim (fun hne => hne hboth.1) (fun hlt => Nat.not_le.mpr hlt hboth.2)

theorem endHoldover_of_end (h : s.time.state = .holdover) (hc : s.time.countdown = 0) :
    endHoldover s = setCause .frozen { s with time := { s.time with state := .frozen, hold := true } } :=
  if_pos ⟨h, hc⟩

theorem endHoldover_of_not (h : s.time.state ≠ .holdover ∨ s.time.countdown ≠ 0) : endHoldover s = s :=
  if_neg fun hboth => h.elim (fun hne => hne hboth.1) (fun hne => hne hboth.2)

/-! ### The tick under way is carried out by its commands (log 2) -/

/-- The state a command leaves. -/
def carried (c : Instr) (t : State) : State :=
  match exec c t with
  | .next w => w
  | .fault _ => t
  | .refused _ => t

theorem carried_of_next {c : Instr} {t w : State} (h : exec c t = .next w) : carried c t = w := by
  rw [carried, h]

/-- A service's retirements and expiry as a tick makes them due. -/
theorem carried_service (i : ServiceNo) {t : State} (h : t.inReset = false) :
    carried (.expiry i) (carried (.retirement i .b) (carried (.retirement i .a) t))
      = actOnExpiry i (retireBoth i t) := by
  have ha : (retire i .a t).inReset = false := (retire_changes i .a t).inReset.trans h
  have hb : (retire i .b (retire i .a t)).inReset = false := (retire_changes i .b _).inReset.trans ha
  rw [carried_of_next (exec_retirement i .a h), carried_of_next (exec_retirement i .b ha),
    carried_of_next (exec_expiry i hb)]
  rfl

theorem serviceDue_inReset (i : ServiceNo) (t : State) :
    (actOnExpiry i (retireBoth i t)).inReset = t.inReset :=
  (actOnExpiry_changes i _).inReset.trans (retireBoth_changes i t).inReset

theorem foldl_carried (l : List ServiceNo) {t : State} (h : t.inReset = false) :
    l.foldl (fun t i => carried (.expiry i) (carried (.retirement i .b) (carried (.retirement i .a) t))) t
      = l.foldl (fun t i => actOnExpiry i (retireBoth i t)) t ∧
    (l.foldl (fun t i => actOnExpiry i (retireBoth i t)) t).inReset = false := by
  induction l generalizing t with
  | nil => exact ⟨rfl, h⟩
  | cons i l ih =>
    rw [List.foldl_cons, List.foldl_cons, carried_service i h]
    exact ih ((serviceDue_inReset i t).trans h)

theorem finishTick_eq_carried (h : s.inReset = false) :
    finishTick s = { carried .holdoverEnd (carried .referenceQualified
      ((List.finRange 24).foldl (fun t i => carried (.expiry i)
          (carried (.retirement i .b) (carried (.retirement i .a) t)))
        (closedAsAbandoned .idle (s.tracker.filter (aged s)) s))) with
      tickOpen := false
      expiring := [] } := by
  have hclosed : (closedAsAbandoned .idle (s.tracker.filter (aged s)) s).inReset = false := by
    rw [← abandonAll_eq_closedAsAbandoned]
    exact (abandonAll_changes _ _ s).inReset.trans h
  obtain ⟨heq, hserved⟩ := foldl_carried (List.finRange 24) hclosed
  rw [heq, carried_of_next (exec_referenceQualified hserved),
    carried_of_next (exec_holdoverEnd ((qualify_changes _).inReset.trans hserved)),
    ← abandonAll_eq_closedAsAbandoned]
  rfl

/-! ### A service at a tick (R117, R122) -/

/-- A key slot a tick older (R122). -/
theorem tickSlot_eq (k : KeySlot) :
    tickSlot k = { k with age := if k.state = .retiring then min 65535 (k.age + 1) else k.age } := by
  unfold tickSlot
  split <;> rfl

theorem services_makeTick (s : State) (i : ServiceNo) :
    (makeTick s).services[i] = tickService s.time.hold s.services[i] := by
  simp [makeTick]

theorem mem_expiring_makeTick (s : State) (i : ServiceNo) :
    i ∈ (makeTick s).expiring ↔ expires s.time.hold s.services[i] = true := by
  simp [makeTick]

/-! ### Inputs (R133 to R141, R160) -/

theorem inputEvent_running {level f : State → State} (h : s.inReset = false) :
    inputEvent level f s = f (level (settled s)) := if_neg (by simp [h])

theorem exec_referenceLost (h : s.inReset = false) (hr : s.time.refPresent = true) :
    exec .referenceLost s = .next (loseReference (setReference false (settled s))) :=
  congrArg Host.Outcome.next ((if_pos hr).trans (inputEvent_running h))

theorem exec_referenceReturned (h : s.inReset = false) (hr : s.time.refPresent = false) :
    exec .referenceReturned s = .next (regainReference (setReference true (settled s))) :=
  congrArg Host.Outcome.next ((if_neg (by simp [hr])).trans (inputEvent_running h))

theorem exec_frameStart (h : s.inReset = false) :
    exec .frameStart s = .next (select (deliver .frame (settled s))) :=
  congrArg Host.Outcome.next (inputEvent_running h)

theorem exec_windowOpening (h : s.inReset = false) (hw : s.time.windowOpen = false) :
    exec .windowOpening s = .next (select (setWindow true (settled s))) :=
  congrArg Host.Outcome.next ((if_neg (by simp [hw])).trans (inputEvent_running h))

theorem exec_windowClosing (h : s.inReset = false) (hw : s.time.windowOpen = true) :
    exec .windowClosing s = .next (windowCloses (setWindow false (settled s))) :=
  congrArg Host.Outcome.next ((if_pos hw).trans (inputEvent_running h))

theorem loseReference_of_locked (h : s.time.state = .locked) : loseReference s =
    setCause .refLost { s with
      time := { s.time with state := .holdover, countdown := s.time.limit } } := by
  simp only [loseReference, h]

theorem loseReference_of_acquiring (h : s.time.state = .acquiring) : loseReference s =
    { s with time := { s.time with qualification := 0 } } := by
  simp only [loseReference, h]

theorem loseReference_of_other (h : s.time.state = .local ∨ s.time.state = .holdover ∨
    s.time.state = .frozen) : loseReference s = s := by
  obtain h | h | h := h <;> simp only [loseReference, h]

theorem regainReference_of_lost (h : s.time.state = .holdover ∨ s.time.state = .frozen) :
    regainReference s =
      { s with time := { s.time with state := .acquiring, qualification := 0, countdown := 0 } } := by
  obtain h | h := h <;> simp only [regainReference, h]

theorem regainReference_of_other (h : s.time.state = .local ∨ s.time.state = .acquiring ∨
    s.time.state = .locked) : regainReference s = s := by
  obtain h | h | h := h <;> simp only [regainReference, h]

theorem withdrawable_iff (r : JobRun) :
    withdrawable r = true ↔ r.taken = false ∧ r.phase ≠ .sweepContinuation := by
  simp [withdrawable]

theorem windowCloses_of_run {r : JobRun} (hr : s.run = some r)
    (hb : s.jobs[r.slot].config.windowBound = true) (hw : withdrawable r = true) :
    windowCloses s = select { s with
      run := none
      jobs := s.jobs.set r.slot { s.jobs[r.slot] with state := .suspended } } := by
  have hsuspend : windowCloses s = suspendRun r.slot s := by
    simp only [windowCloses, hr, hb, hw]
    rfl
  rw [hsuspend]
  rfl

theorem windowCloses_of_kept (h : ∀ r, s.run = some r →
    s.jobs[r.slot].config.windowBound = false ∨ ¬ withdrawable r = true) : windowCloses s = s := by
  unfold windowCloses
  split
  · rfl
  · rename_i r hr
    refine if_neg fun hboth => ?_
    obtain ⟨hb, hw⟩ := Bool.and_eq_true_iff.mp hboth
    exact (h r hr).elim (fun hno => Bool.false_ne_true (hno.symm.trans hb)) (fun hno => hno hw)

end Sys2Proof.Machine

namespace Sys2Proof.Proofs
open Sys2Proof Sys2Proof.Machine

/-- Settles O31: the first aged entry closes, and a guarded slot without users becomes EMPTY. -/
theorem agedEntriesCloseAndGuardedSlotsRetire : Obligations.AgedEntriesCloseAndGuardedSlotsRetire := by
  intro s hr
  refine ⟨fun before e after hopen hs hbefore he => ?_, fun hno => ?_, ?_⟩
  · rw [exec_idleClose hr, hopen, if_pos rfl, closeFirstAged_of_first hs ?_ ((aged_iff s e).mpr he)]
    · rfl
    · exact fun x hx hage => Nat.not_lt.mpr (hbefore x hx) ((aged_iff s x).mp hage)
  · rw [exec_idleClose hr]
    obtain hclosed | hyoung := hno
    · rw [if_neg (by simp [hclosed])]
    · rw [closeFirstAged_of_none fun x hx hage => Nat.not_lt.mpr (hyoung x hx) ((aged_iff s x).mp hage),
        ite_self]
  · rintro i p v k rfl rfl
    rw [exec_retirement i p hr]
    exact ⟨fun hst hage hu => congrArg Host.Outcome.next (retire_of_retiring rfl hst hage hu),
      fun hno => congrArg Host.Outcome.next (retire_of_not_retiring rfl hno), rfl⟩

/-- Settles O32: EXPIRY by what the service's next slot and its extensions allow, and the flip. -/
theorem expiryFlipsExtendsOrWithholds : Obligations.ExpiryFlipsExtendsOrWithholds := by
  intro s i hr
  rw [exec_expiry i hr]
  refine ⟨fun hno => by rw [actOnExpiry_of_not_mem hno], ?_, fun t => rfl, ?_, ?_⟩
  · rintro v rfl
    refine ⟨fun ha => ?_, fun ha hb => ?_, fun ha hb => flipService_of_none (activePhase_of_none ha hb)⟩
    · rw [flipService_of_active (activePhase_of_a ha)]
      rfl
    · rw [flipService_of_active (activePhase_of_b ha hb)]
      rfl
  · rintro hin w v rfl rfl hst
    rw [actOnExpiry_of_mem hin, expire_of_stopped hst]
  · rintro hin w v rfl rfl hst
    rw [actOnExpiry_of_mem hin]
    exact ⟨fun hn => by rw [expire_of_ready hst hn], fun hn he => by rw [expire_of_extension hst hn he],
      fun hn he => by rw [expire_of_limit hst hn he]⟩

/-- Settles O33: the reference state machine, event by event. -/
theorem referenceEventsMoveTheState : Obligations.ReferenceEventsMoveTheState := by
  rintro s hr u rfl
  refine ⟨fun h hq => ?_, fun h => ?_, fun h hc => ?_, fun h => ?_, ?_, ?_⟩
  · rw [exec_referenceQualified hr, qualify_of_acquired h hq]
  · rw [exec_referenceQualified hr, qualify_of_not h]
  · rw [exec_holdoverEnd hr, endHoldover_of_end h hc]
  · rw [exec_holdoverEnd hr, endHoldover_of_not h]
  · rintro hp b rfl
    rw [exec_referenceLost hr hp]
    refine ⟨fun h => ?_, fun h => ?_, fun h => ?_⟩
    · exact congrArg Host.Outcome.next (loseReference_of_locked (s := setReference false (settled s)) h)
    · exact congrArg Host.Outcome.next (loseReference_of_acquiring (s := setReference false (settled s)) h)
    · exact congrArg Host.Outcome.next (loseReference_of_other (s := setReference false (settled s)) h)
  · rintro hp b rfl
    rw [exec_referenceReturned hr hp]
    refine ⟨fun h => ?_, fun h => ?_⟩
    · exact congrArg Host.Outcome.next (regainReference_of_lost (s := setReference true (settled s)) h)
    · exact congrArg Host.Outcome.next (regainReference_of_other (s := setReference true (settled s)) h)

/-- Settles O34: the frame's trigger, the window's selections and the withdrawal of a window-bound run. -/
theorem frameAndWindowReachTheJobs : Obligations.FrameAndWindowReachTheJobs := by
  rintro s hr u rfl
  refine ⟨exec_frameStart hr, fun hw => exec_windowOpening hr hw, ?_⟩
  rintro hw w rfl
  rw [exec_windowClosing hr hw]
  refine ⟨fun r hrun hb ht hphase => ?_, fun hkept => congrArg Host.Outcome.next (windowCloses_of_kept ?_)⟩
  · exact congrArg Host.Outcome.next (windowCloses_of_run hrun hb ((withdrawable_iff r).mpr ⟨ht, hphase⟩))
  · intro r hrun
    refine (hkept r hrun).imp_right fun hno hwith => ?_
    obtain ⟨ht, hphase⟩ := (withdrawable_iff r).mp hwith
    exact hno.elim (fun h => Bool.false_ne_true (ht.symm.trans h)) hphase

/-- Settles O30: a tick's counters, and what it made due carried out as its commands do. -/
theorem tickMovesEveryCounter : Obligations.TickMovesEveryCounter := by
  refine ⟨fun s => settled_of_closed, ?_, ?_⟩
  · rintro s hopen hr carry hcarry closed rfl served rfl
    have hsame : carry = carried := by
      rw [hcarry]
      rfl
    subst hsame
    rw [settled, if_pos hopen, finishTick_eq_carried hr]
    rfl
  · rintro s hr u rfl
    refine ⟨_, exec_tick hr, rfl, rfl, ?_⟩
    rintro i v rfl counts rfl older rfl
    rw [services_makeTick, mem_expiring_makeTick]
    generalize (settled s).services[i] = v
    have hboth : (counting v && !(settled s).time.hold) = true ↔
        (settled s).time.hold = false ∧ (v.state = .running ∨ v.state = .starved) := by
      rw [Bool.and_eq_true, counting_iff, Bool.not_eq_true', and_comm]
    refine ⟨fun hcounts => ?_, fun hheld => ?_, ?_⟩
    · rw [tickService, if_pos (hboth.mpr hcounts), tickSlot_eq, tickSlot_eq]
    · rw [tickService, if_neg (fun h => hheld (hboth.mp h)), tickSlot_eq, tickSlot_eq]
    · rw [expires, Bool.and_eq_true, hboth, decide_eq_true_iff]

end Sys2Proof.Proofs
end

section
/-! SUPPORT. The causes that arise over several operations, the records of abandoned entries, and a key purge
(R94, R95, R125, R126, R165 to R170). -/

namespace Sys2Proof.Machine

variable {s t u : State}

/-! ### Causes that arise (R168, R170) -/

/-- Between two states these causes arise: each sets its flag and, when enabled, raises its group. -/
structure Reported (arises : Cause → Prop) (s t : State) : Prop where
  flags   : ∀ c, flagOf t c = true ↔ flagOf s c = true ∨ arises c
  raised  : ∀ g, raisedOf t g = true ↔
    raisedOf s g = true ∨ ∃ c, arises c ∧ causeGroup c = g ∧ enableOf s c = true
  enables : t.enables = s.enables

theorem Reported.of_same (hf : t.flags = s.flags) (hr : t.raised = s.raised) (he : t.enables = s.enables) :
    Reported (fun _ => False) s t := by
  refine ⟨fun c => ?_, fun g => ?_, he⟩
  · rw [flagOf, flagOf, hf]
    simp
  · rw [raisedOf, raisedOf, hr]
    simp

theorem Reported.trans {A B : Cause → Prop} (h : Reported A s t) (h' : Reported B t u) :
    Reported (fun c => A c ∨ B c) s u := by
  have hen : ∀ c, enableOf t c = enableOf s c := fun c => by rw [enableOf, enableOf, h.enables]
  refine ⟨fun c => ?_, fun g => ?_, h'.enables.trans h.enables⟩
  · rw [h'.flags, h.flags, or_assoc]
  · rw [h'.raised, h.raised, or_assoc]
    simp only [hen, or_and_right, exists_or]

theorem Reported.congr {A B : Cause → Prop} (h : Reported A s t) (hAB : ∀ c, A c ↔ B c) :
    Reported B s t := by
  obtain rfl : A = B := funext fun c => propext (hAB c)
  exact h

theorem reported_setCause (d : Cause) (s : State) : Reported (fun c => c = d) s (setCause d s) := by
  refine ⟨fun c => ?_, fun g => ?_, setCause_enables s d⟩
  · rw [flagOf_setCause, Bool.or_eq_true, decide_eq_true_iff]
  · rw [raisedOf_setCause, Bool.or_eq_true, Bool.and_eq_true, decide_eq_true_iff]
    simp only [exists_eq_left]
    exact or_congr_right (and_congr_left' eq_comm)

/-- A cause's event after changes beside the event unit. -/
theorem reported_of_setCause {A : Cause → Prop} {d : Cause} {w : State} (hf : w.flags = s.flags)
    (hr : w.raised = s.raised) (he : w.enables = s.enables) (hA : ∀ c, c = d ↔ A c) :
    Reported A s (setCause d w) :=
  ((Reported.of_same hf hr he).trans (reported_setCause d w)).congr fun c => by rw [false_or, hA c]

/-! ### Records (R165, R167) -/

theorem offer_reported (r : CaptureRecord) (s : State) :
    Reported (fun c => (c = .captureReady ∧ s.capture.length = 0) ∨
      (c = .captureOverrun ∧ 48 ≤ s.capture.length)) s (offer r s) ∧
    ((offer r s).overrun = true ↔ s.overrun = true ∨ 48 ≤ s.capture.length) := by
  by_cases h0 : s.capture = []
  · rw [offer_of_empty r h0]
    refine ⟨reported_of_setCause rfl rfl rfl fun c => ?_, ?_⟩
    · simp [h0]
    · rw [setCause_overrun]
      simp [h0]
  · have hpos : s.capture.length ≠ 0 := by simpa using h0
    by_cases h48 : s.capture.length < 48
    · have hno : ¬ 48 ≤ s.capture.length := Nat.not_le.mpr h48
      rw [offer_of_room r h0 h48]
      refine ⟨Reported.congr (Reported.of_same rfl rfl rfl) fun c => ?_, ?_⟩
      · simp [hpos, hno]
      · simp [hno]
    · have hfull := Nat.le_of_not_lt h48
      rw [offer_of_full r hfull]
      refine ⟨reported_of_setCause rfl rfl rfl fun c => ?_, ?_⟩
      · simp [hpos, hfull]
      · rw [setCause_overrun]
        simp [hfull]

/-! ### Changes of users and retirements (R88, R123, R125) -/

/-- Some service's key-wanted indication becomes set (R125). -/
def WantsRise (s t : State) : Prop :=
  ∃ i : ServiceNo, keyWanted s.services[i] = false ∧ keyWanted t.services[i] = true

/-- Services change in their key slots alone, and no key-wanted indication is cleared. -/
structure SlotsMoved (s t : State) : Prop where
  slots : ∀ i : ServiceNo, t.services[i] =
    { s.services[i] with slotA := t.services[i].slotA, slotB := t.services[i].slotB }
  wants : ∀ i : ServiceNo, keyWanted s.services[i] = true → keyWanted t.services[i] = true

theorem SlotsMoved.of_same (h : t.services = s.services) : SlotsMoved s t :=
  ⟨fun i => by rw [h], fun i hi => by rwa [h]⟩

theorem SlotsMoved.trans (h : SlotsMoved s t) (h' : SlotsMoved t u) : SlotsMoved s u :=
  ⟨fun i => by
    rw [h'.slots i, h.slots i], fun i hi => h'.wants i (h.wants i hi)⟩

theorem SlotsMoved.state (h : SlotsMoved s t) (i : ServiceNo) : t.services[i].state = s.services[i].state := by
  rw [h.slots i]

/-- Indications that are set stay set, so that rises add up. -/
theorem SlotsMoved.rise_iff (h : SlotsMoved s t) (h' : SlotsMoved t u) :
    WantsRise s t ∨ WantsRise t u ↔ WantsRise s u := by
  constructor
  · rintro (⟨i, hs, ht⟩ | ⟨i, ht, hu⟩)
    · exact ⟨i, hs, h'.wants i ht⟩
    · refine ⟨i, Bool.eq_false_iff.mpr fun hs => ?_, hu⟩
      rw [h.wants i hs] at ht
      cases ht
  · rintro ⟨i, hs, hu⟩
    cases ht : keyWanted t.services[i] with
    | true => exact .inl ⟨i, hs, ht⟩
    | false => exact .inr ⟨i, ht, hu⟩

theorem SlotsMoved.not_rise (h : t.services = s.services) : ¬ WantsRise s t := by
  rintro ⟨i, hs, ht⟩
  rw [h, hs] at ht
  cases ht

/-- What retirements and changes of users do besides: KEY_WANTED arises as an indication becomes set. -/
structure KeysMoved (s t : State) : Prop extends SlotsMoved s t where
  causes  : Reported (fun c => c = .keyWanted ∧ WantsRise s t) s t
  capture : t.capture = s.capture
  overrun : t.overrun = s.overrun
  time    : t.time = s.time

theorem KeysMoved.of_same (hv : t.services = s.services) (hf : t.flags = s.flags)
    (hr : t.raised = s.raised) (he : t.enables = s.enables) (hc : t.capture = s.capture)
    (ho : t.overrun = s.overrun) (htime : t.time = s.time) : KeysMoved s t :=
  ⟨SlotsMoved.of_same hv, (Reported.of_same hf hr he).congr fun c => by
    simp [SlotsMoved.not_rise hv], hc, ho, htime⟩

theorem KeysMoved.trans (h : KeysMoved s t) (h' : KeysMoved t u) : KeysMoved s u := by
  refine ⟨h.toSlotsMoved.trans h'.toSlotsMoved, (h.causes.trans h'.causes).congr fun c => ?_,
    h'.capture.trans h.capture, h'.overrun.trans h.overrun, h'.time.trans h.time⟩
  rw [← and_or_left, h.toSlotsMoved.rise_iff h'.toSlotsMoved]

/-- New contents of a service's key slots that clear no indication. -/
theorem putService_moved {i : ServiceNo} {v : Service}
    (hslots : v = { s.services[i] with slotA := v.slotA, slotB := v.slotB })
    (hwants : keyWanted s.services[i] = true → keyWanted v = true) : KeysMoved s (putService i v s) := by
  have hservices : (putService i v s).services = s.services.set i v := by
    rw [putService_eq]
    split
    · rw [setCause_services]
    · rfl
  have hget : ∀ k : ServiceNo, (putService i v s).services[k] = if k = i then v else s.services[k] := by
    intro k
    rw [hservices]
    by_cases hk : k = i
    · subst hk
      simp
    · have hne : i.val ≠ k.val := fun heq => hk (Fin.ext heq.symm)
      simp [hk, Vector.getElem_set_ne, hne]
  have hrise : WantsRise s (putService i v s) ↔ keyWanted s.services[i] = false ∧ keyWanted v = true := by
    constructor
    · rintro ⟨k, hs, ht⟩
      rw [hget] at ht
      by_cases hk : k = i
      · subst hk
        rw [if_pos rfl] at ht
        exact ⟨hs, ht⟩
      · rw [if_neg hk, hs] at ht
        cases ht
    · rintro ⟨hs, hv⟩
      exact ⟨i, hs, by rw [hget, if_pos rfl]; exact hv⟩
  refine ⟨⟨fun k => ?_, fun k hk => ?_⟩, ?_, ?_, ?_, ?_⟩
  · rw [hget]
    split
    case isTrue h => subst h; exact hslots
    case isFalse => rfl
  · rw [hget]
    split
    case isTrue h => subst h; exact hwants hk
    case isFalse => exact hk
  · rw [putService_eq]
    split
    case isTrue h =>
      rw [putService_eq, if_pos h] at hrise
      refine reported_of_setCause rfl rfl rfl fun c => ?_
      simp only [hrise, h, and_self, and_true]
    case isFalse h =>
      rw [putService_eq, if_neg h] at hrise
      refine Reported.congr (Reported.of_same rfl rfl rfl) fun c => ?_
      simp only [hrise, h, and_false]
  · rw [putService_eq]
    split
    · rw [setCause_capture]
    · rfl
  · rw [putService_eq]
    split
    · rw [setCause_overrun]
    · rfl
  · rw [putService_eq]
    split
    · rw [setCause_time]
    · rfl

theorem withKeySlot_slots (p : Phase) (k : KeySlot) (v : Service) : withKeySlot p k v =
    { v with slotA := (withKeySlot p k v).slotA, slotB := (withKeySlot p k v).slotB } := by
  cases p <;> rfl

/-- A RETIRING slot that becomes EMPTY clears no key-wanted indication (R125). -/
theorem keyWanted_emptied {v : Service} {p : Phase} (hr : (keySlot v p).state = .retiring)
    (h : keyWanted v = true) : keyWanted (withKeySlot p (emptied (keySlot v p)) v) = true := by
  rw [keyWanted_iff] at h ⊢
  obtain ⟨hstate, hwant⟩ := h
  refine ⟨by cases p <;> exact hstate, ?_⟩
  cases p with
  | a =>
    have hstateA : v.slotA.state = .retiring := hr
    by_cases hb : v.slotB.state = .active
    · right
      rw [nextState_of_active (p := .b)]
      · rfl
      · exact activePhase_of_b KeyState.noConfusion hb
    · exact .inl (activePhase_of_none KeyState.noConfusion hb)
  | b =>
    by_cases ha : v.slotA.state = .active
    · right
      rw [nextState_of_active (p := .a)]
      · rfl
      · exact activePhase_of_a ha
    · exact .inl (activePhase_of_none ha KeyState.noConfusion)

theorem retire_moved (i : ServiceNo) (p : Phase) (s : State) : KeysMoved s (retire i p s) := by
  by_cases h : retireDue s.services[i] (keySlot s.services[i] p) = true
  · rw [retire_of_due h]
    exact putService_moved (withKeySlot_slots _ _ _) (keyWanted_emptied ((retireDue_iff _ _).mp h).1)
  · rw [retire_of_not_due h]
    exact KeysMoved.of_same rfl rfl rfl rfl rfl rfl rfl

theorem dropUser_moved (i : ServiceNo) (p : Phase) (s : State) : KeysMoved s (dropUser i p s) := by
  rw [dropUser_eq]
  refine KeysMoved.trans (putService_moved (withKeySlot_slots _ _ _) fun h => ?_) (retire_moved i p _)
  rw [keyWanted_users]
  exact h

theorem closeEntry_moved (e : TrackerEntry) (s : State) : KeysMoved s (closeEntry e s) := by
  have hleft : KeysMoved s { s with tracker := s.tracker.filter fun x => decide (x.slot ≠ e.slot) } :=
    KeysMoved.of_same rfl rfl rfl rfl rfl rfl rfl
  cases hd : e.disposition with
  | scramble i p =>
    rw [closeEntry_of_scramble hd]
    exact hleft.trans (dropUser_moved i p _)
  | clear => rwa [closeEntry_of_plain (by rw [hd]; rfl)]
  | pass => rwa [closeEntry_of_plain (by rw [hd]; rfl)]
  | null => rwa [closeEntry_of_plain (by rw [hd]; rfl)]

/-! ### Records joining the queue (R94, R165, R167) -/

/-- The causes that arise when `n` records are produced and key slots retire. -/
def RecordsArise (n : Nat) (s t : State) (c : Cause) : Prop :=
  (c = .keyWanted ∧ WantsRise s t) ∨ (c = .captureReady ∧ s.capture.length = 0 ∧ 0 < n) ∨
  (c = .captureOverrun ∧ 0 < n ∧ 48 < s.capture.length + n)

/-- What closing some entries as abandoned does to the services, the capture queue and the causes. -/
structure RecordsMade (rs : List CaptureRecord) (s t : State) : Prop extends SlotsMoved s t where
  causes  : Reported (RecordsArise rs.length s t) s t
  capture : t.capture = s.capture ++ rs.take (48 - s.capture.length)
  overrun : t.overrun = true ↔ s.overrun = true ∨ (0 < rs.length ∧ 48 < s.capture.length + rs.length)
  time    : t.time = s.time

theorem KeysMoved.records (h : KeysMoved s t) : RecordsMade [] s t := by
  refine ⟨h.toSlotsMoved, h.causes.congr fun c => ?_, ?_, ?_, h.time⟩
  · simp [RecordsArise]
  · simp [h.capture]
  · simp [h.overrun]

theorem offer_records (r : CaptureRecord) (s : State) : RecordsMade [r] s (offer r s) := by
  obtain ⟨hcauses, hoverrun⟩ := offer_reported r s
  have hservices : (offer r s).services = s.services := offer_services s r
  refine ⟨SlotsMoved.of_same hservices, hcauses.congr fun c => ?_, ?_, ?_, offer_time s r⟩
  · simp [RecordsArise, SlotsMoved.not_rise hservices]
  · rw [capture_offer]
    split
    case isTrue h =>
      have hroom : 48 - s.capture.length = (47 - s.capture.length) + 1 := by omega
      rw [hroom, List.take_succ_cons, List.take_nil]
    case isFalse h =>
      have hfull : 48 - s.capture.length = 0 := by omega
      rw [hfull, List.take_zero, List.append_nil]
  · rw [hoverrun]
    simp

theorem RecordsMade.length (rs : List CaptureRecord) (h : RecordsMade rs s t) :
    t.capture.length = s.capture.length + min (48 - s.capture.length) rs.length := by
  rw [h.capture, List.length_append, List.length_take]

theorem or_and_thrice {a b c p q r p' q' r' : Prop} :
    ((a ∧ p) ∨ (b ∧ q) ∨ (c ∧ r)) ∨ ((a ∧ p') ∨ (b ∧ q') ∨ (c ∧ r')) ↔
      (a ∧ (p ∨ p')) ∨ (b ∧ (q ∨ q')) ∨ (c ∧ (r ∨ r')) := by
  tauto

theorem RecordsMade.trans {rs rs' : List CaptureRecord} (h : RecordsMade rs s t)
    (h' : RecordsMade rs' t u) : RecordsMade (rs ++ rs') s u := by
  have hlen := h.length
  have hready : (s.capture.length = 0 ∧ 0 < rs.length) ∨ (t.capture.length = 0 ∧ 0 < rs'.length) ↔
      s.capture.length = 0 ∧ 0 < (rs ++ rs').length := by
    rw [List.length_append]
    omega
  have hover : (0 < rs.length ∧ 48 < s.capture.length + rs.length) ∨
      (0 < rs'.length ∧ 48 < t.capture.length + rs'.length) ↔
      0 < (rs ++ rs').length ∧ 48 < s.capture.length + (rs ++ rs').length := by
    rw [List.length_append]
    omega
  refine ⟨h.toSlotsMoved.trans h'.toSlotsMoved, (h.causes.trans h'.causes).congr fun c => ?_, ?_, ?_,
    h'.time.trans h.time⟩
  · unfold RecordsArise
    rw [← hready, ← hover, ← h.toSlotsMoved.rise_iff h'.toSlotsMoved]
    exact or_and_thrice
  · have hleft : 48 - t.capture.length = 48 - s.capture.length - rs.length := by omega
    rw [h'.capture, hleft, h.capture, List.take_append, List.append_assoc]
  · rw [h'.overrun, h.overrun, or_assoc, hover]

theorem abandon_records (reason : CloseReason) (e : TrackerEntry) (s : State) :
    RecordsMade [abandonedRecord s e reason] s (abandon reason e s) :=
  (offer_records _ s).trans (closeEntry_moved e _).records

theorem abandonedRecord_congr (h : t.time = s.time) (e : TrackerEntry) (reason : CloseReason) :
    abandonedRecord t e reason = abandonedRecord s e reason := by
  simp only [abandonedRecord, plainRecord, stampOf, h]

theorem abandonAll_records (reason : CloseReason) (es : List TrackerEntry) (s : State) :
    RecordsMade (es.map fun e => abandonedRecord s e reason) s (abandonAll reason es s) := by
  induction es generalizing s with
  | nil => exact (KeysMoved.of_same (s := s) rfl rfl rfl rfl rfl rfl rfl).records
  | cons e es ih =>
    have hone := abandon_records reason e s
    have hrest := ih (abandon reason e s)
    rw [List.map_congr_left fun x _ => abandonedRecord_congr hone.time x reason] at hrest
    exact hone.trans hrest

theorem abandonWhere_records (reason : CloseReason) (test : TrackerEntry → Bool) (s : State) :
    RecordsMade ((s.tracker.filter test).map fun e => abandonedRecord s e reason) s
      (abandonWhere reason test s) := abandonAll_records reason _ s

/-! ### The purge (R95, R126) -/

theorem tracker_abandonWhere (reason : CloseReason) (test : TrackerEntry → Bool)
    (hn : (s.tracker.map (·.slot)).Nodup) :
    (abandonWhere reason test s).tracker = s.tracker.filter fun e => !test e := by
  rw [abandonWhere, tracker_abandonAll]
  refine List.filter_congr fun x hx => ?_
  rw [Bool.eq_iff_iff, List.all_eq_true, Bool.not_eq_true']
  constructor
  · intro hall
    refine Bool.eq_false_iff.mpr fun htest => ?_
    simpa using hall x (List.mem_filter.mpr ⟨hx, htest⟩)
  · intro hno e he
    obtain ⟨hmem, htest⟩ := List.mem_filter.mp he
    refine bne_iff_ne.mpr fun hslot => ?_
    rw [List.inj_on_of_nodup_map hn hx hmem hslot, htest] at hno
    cases hno

theorem keyWanted_purgedService (v : Service) : keyWanted (purgedService v) = true ↔ v.state ≠ .idle := by
  rw [keyWanted_iff]
  by_cases h : v.state = .idle
  · simp [purgedService, h]
  · simp [purgedService, h, activePhase, KeySlot.reset]

theorem purgedService_eq (v : Service) : purgedService v = { v with
    state := if v.state = .idle then .idle else .withholding
    extension := if v.state = .idle then v.extension else 0
    slotA := KeySlot.reset
    slotB := KeySlot.reset } := by
  by_cases h : v.state = .idle
  · simp only [purgedService, h, if_true]
  · simp only [purgedService, h, if_false]

/-- A purge of the services: PURGED arises, and KEY_WANTED with an indication (R125, R126). -/
theorem purgeKeys_effect (s : State) :
    (∀ i : ServiceNo, (purgeKeys s).services[i] = purgedService s.services[i]) ∧
    Reported (fun c => c = .purged ∨ (c = .keyWanted ∧ ∃ i : ServiceNo,
      keyWanted s.services[i] = false ∧ s.services[i].state ≠ .idle)) s (purgeKeys s) ∧
    (purgeKeys s).capture = s.capture ∧ (purgeKeys s).overrun = s.overrun ∧
    (purgeKeys s).tracker = s.tracker := by
  have hrises : ((List.finRange 24).any fun i =>
      !keyWanted s.services[i] && keyWanted (purgedService s.services[i])) = true ↔
      ∃ i : ServiceNo, keyWanted s.services[i] = false ∧ s.services[i].state ≠ .idle := by
    simp only [List.any_eq_true, List.mem_finRange, true_and, Bool.and_eq_true, Bool.not_eq_true',
      keyWanted_purgedService]
  have hpurged : Reported (fun c => c = .purged) s (setCause .purged
      { s with services := Vector.ofFn fun i : Fin 24 => purgedService s.services[i] }) :=
    reported_of_setCause rfl rfl rfl fun _ => Iff.rfl
  unfold purgeKeys
  dsimp only
  split
  case isTrue h =>
    refine ⟨fun i => by simp, (hpurged.trans (reported_setCause .keyWanted _)).congr fun c => ?_,
      by simp, by simp, by simp⟩
    simp only [hrises.mp h, and_true]
  case isFalse h =>
    refine ⟨fun i => by simp, hpurged.congr fun c => ?_, by simp, by simp, by simp⟩
    rw [hrises] at h
    simp only [h, and_false, or_false]

/-- The causes of a key purge that has `n` records (R95, R126). -/
def PurgeArises (n : Nat) (b : State) (c : Cause) : Prop :=
  c = .purged ∨ (c = .captureOverrun ∧ 0 < n ∧ 48 < b.capture.length + n) ∨
  (c = .captureReady ∧ b.capture = [] ∧ 0 < n) ∨
  (c = .keyWanted ∧ ∃ i : ServiceNo, b.services[i].state ≠ .idle ∧ keyWanted b.services[i] = false)

theorem purge_causes {k q w p ready full w' u' : Prop} :
    ((k ∧ w) ∨ (q ∧ ready) ∨ (p ∧ full)) ∨ u' ∨ (k ∧ w') ↔
      u' ∨ (p ∧ full) ∨ (q ∧ ready) ∨ (k ∧ (w ∨ w')) := by
  tauto

theorem keyPurge_reported (b : State) :
    Reported (PurgeArises (b.tracker.filter fun e => isScramble e.disposition).length b) b (keyPurge b) := by
  have hmade := abandonWhere_records .purge (fun e => isScramble e.disposition) b
  obtain ⟨-, hcauses, -⟩ := purgeKeys_effect (abandonWhere .purge (fun e => isScramble e.disposition) b)
  have hlist : ∀ {l : List CaptureRecord}, l.length = 0 ↔ l = [] := List.length_eq_zero_iff
  refine (hmade.causes.trans hcauses).congr fun c => ?_
  have hrise : WantsRise b (abandonWhere .purge (fun e => isScramble e.disposition) b) ∨
      (∃ i : ServiceNo,
        keyWanted (abandonWhere .purge (fun e => isScramble e.disposition) b).services[i] = false ∧
        (abandonWhere .purge (fun e => isScramble e.disposition) b).services[i].state ≠ .idle) ↔
      ∃ i : ServiceNo, b.services[i].state ≠ .idle ∧ keyWanted b.services[i] = false := by
    constructor
    · rintro (⟨i, hb, hw⟩ | ⟨i, hw, hst⟩)
      · refine ⟨i, ?_, hb⟩
        rw [← hmade.state i]
        exact ((keyWanted_iff _).mp hw).1
      · refine ⟨i, by rwa [← hmade.state i], Bool.eq_false_iff.mpr fun hb => ?_⟩
        rw [hmade.wants i hb] at hw
        cases hw
    · rintro ⟨i, hst, hb⟩
      cases hw : keyWanted (abandonWhere .purge (fun e => isScramble e.disposition) b).services[i] with
      | true => exact .inl ⟨i, hb, hw⟩
      | false => exact .inr ⟨i, hw, by rw [hmade.state i]; exact hst⟩
  unfold PurgeArises RecordsArise
  rw [← hrise, List.length_map, hlist]
  exact purge_causes

theorem keyPurge_service (b : State) (i : ServiceNo) :
    (keyPurge b).services[i] = purgedService b.services[i] := by
  have hmade := abandonWhere_records .purge (fun e => isScramble e.disposition) b
  obtain ⟨hservices, -⟩ := purgeKeys_effect (abandonWhere .purge (fun e => isScramble e.disposition) b)
  have hslots := hmade.slots i
  refine (hservices i).trans ?_
  rw [hslots, purgedService_eq, purgedService_eq]

theorem keyPurge_records (b : State) :
    (keyPurge b).capture = b.capture ++ ((b.tracker.filter fun e => isScramble e.disposition).map
      fun e => abandonedRecord b e .purge).take (48 - b.capture.length) ∧
    ((keyPurge b).overrun = true ↔ b.overrun = true ∨
      (0 < (b.tracker.filter fun e => isScramble e.disposition).length ∧
        48 < b.capture.length + (b.tracker.filter fun e => isScramble e.disposition).length)) := by
  have hmade := abandonWhere_records .purge (fun e => isScramble e.disposition) b
  obtain ⟨-, -, hcapture, hoverrun, -⟩ :=
    purgeKeys_effect (abandonWhere .purge (fun e => isScramble e.disposition) b)
  refine ⟨hcapture.trans hmade.capture, ?_⟩
  have hover := hmade.overrun
  rw [List.length_map] at hover
  rw [keyPurge, hoverrun]
  exact hover

theorem keyPurge_tracker (b : State) (hn : (b.tracker.map (·.slot)).Nodup) :
    (keyPurge b).tracker = b.tracker.filter fun e => !isScramble e.disposition := by
  obtain ⟨-, -, -, -, htracker⟩ :=
    purgeKeys_effect (abandonWhere .purge (fun e => isScramble e.disposition) b)
  exact htracker.trans (tracker_abandonWhere .purge _ hn)

theorem abandonedRecord_of_scramble {e : TrackerEntry} (h : isScramble e.disposition = true)
    (reason : CloseReason) : abandonedRecord s e reason =
      ⟨.abandoned, e.initiator, .write, e.slot, s.time.tickCount.setWidth 16, some e.aperture, some e.pid,
        match e.disposition with | .scramble i _ => some i | .clear | .pass | .null => none,
        some reason, none⟩ := by
  have hne : e.disposition ≠ .null := fun hnull => by rw [hnull] at h; cases h
  rw [abandonedRecord, if_neg hne]
  rfl

end Sys2Proof.Machine

namespace Sys2Proof.Proofs
open Sys2Proof Sys2Proof.Machine

/-- Settles O35: the purge's records, the emptied slots, and every cause that arises. -/
theorem keyPurgeEmptiesEverySlot : Obligations.KeyPurgeEmptiesEverySlot := by
  rintro s u rfl hn purged hpurged
  have hall : ∀ b : State, (b.tracker.map (·.slot)).Nodup → purged b (keyPurge b) := by
    intro b hb
    rw [hpurged]
    obtain ⟨hcapture, hoverrun⟩ := keyPurge_records b
    have hcauses := keyPurge_reported b
    refine ⟨keyPurge_changes b, keyPurge_tracker b hb, ?_, ?_, ?_⟩
    · rw [hcapture]
      congr 2
      refine List.map_congr_left fun e he => ?_
      exact abandonedRecord_of_scramble (List.mem_filter.mp he).2 .purge
    · rintro i v rfl
      rw [keyPurge_service, purgedService_eq]
      rfl
    · rintro records rfl overfull rfl
      refine ⟨hoverrun, ?_⟩
      rintro arises rfl
      exact ⟨hcauses.flags, hcauses.raised⟩
  refine ⟨fun hl => ⟨_, answers_of hl (fun s => done (keyPurge s)) rfl rfl rfl, hall _ hn⟩,
    fun hr hp => ⟨_, ?_, hall { settled s with purgeHeld := true } hn⟩, fun hr hp => ?_⟩
  · refine congrArg Host.Outcome.next ?_
    rw [hp, if_neg Bool.false_ne_true, inputEvent_running hr]
    rfl
  · refine congrArg Host.Outcome.next ?_
    rw [hp, if_pos rfl, inputEvent_running hr]
    rfl

end Sys2Proof.Proofs
end

section
/-! SUPPORT. The byte codings of choices, numbers and responses (R177): each value is read back from its own
bytes, and no other bytes are read as it. -/

namespace Sys2Proof.Machine

variable {b : Byte}

theorem byte_eq_of_toNat {n : Nat} (hn : n < 256) (h : b.toNat = n) : b = BitVec.ofNat 8 n :=
  BitVec.eq_of_toNat_eq (by rw [h, BitVec.toNat_ofNat, Nat.mod_eq_of_lt hn])

/-! ### Choices, coded by their position (R177) -/

/-- `dec` reads the bytes `enc` gives the `n` choices, and no byte from `n` on. -/
structure Coding {α : Type} (dec : Byte → Option α) (enc : α → Byte) (n : Nat) : Prop where
  read : ∀ v, dec (enc v) = some v
  byte : ∀ {b v}, dec b = some v → b = enc v
  none : ∀ {b}, dec b = none ↔ n ≤ b.toNat

namespace Coding

variable {α : Type} {dec : Byte → Option α} {enc : α → Byte} {n : Nat}

/-- The choices of the list `l`, each coded by its position. -/
theorem of_list (l : List α) (hdec : ∀ b, dec b = l[b.toNat]?)
    (henc : l.map enc = (List.range l.length).map natByte)
    (hread : ∀ v, dec (enc v) = some v) : Coding dec enc l.length where
  read := hread
  byte {b v} h := by
    rw [hdec] at h
    have hb : (l.map enc)[b.toNat]? = some (enc v) := by rw [List.getElem?_map, h]; rfl
    rw [henc, List.getElem?_map, List.getElem?_range (List.getElem?_eq_some_iff.mp h).1] at hb
    rw [← Option.some.inj hb, natByte, BitVec.ofNat_toNat, BitVec.setWidth_eq]
  none {b} := by rw [hdec, List.getElem?_eq_none_iff]

theorem some (h : Coding dec enc n) {b : Byte} {v : α} : dec b = .some v ↔ b = enc v :=
  ⟨h.byte, fun hb => hb ▸ h.read v⟩

end Coding

theorem boolCoding : Coding yesNo boolByte 2 :=
  .of_list [false, true]
    (fun b => by unfold yesNo; exact match b.toNat with | 0 | 1 => rfl | _ + 2 => rfl)
    rfl (fun v => by cases v <;> rfl)

theorem viewCoding : Coding viewOf viewByte 3 :=
  .of_list [.raw, .sample, .packet]
    (fun b => by unfold viewOf; exact match b.toNat with | 0 | 1 | 2 => rfl | _ + 3 => rfl)
    rfl (fun v => by cases v <;> rfl)

theorem violationCoding : Coding violationOf violationByte 3 :=
  .of_list [.refuse, .divert, .note]
    (fun b => by unfold violationOf; exact match b.toNat with | 0 | 1 | 2 => rfl | _ + 3 => rfl)
    rfl (fun v => by cases v <;> rfl)

theorem clearOrNullCoding : Coding clearOrNullOf clearOrNullByte 2 :=
  .of_list [.clear, .null]
    (fun b => by unfold clearOrNullOf; exact match b.toNat with | 0 | 1 => rfl | _ + 2 => rfl)
    rfl (fun v => by cases v <;> rfl)

theorem unmappedCoding : Coding unmappedOf unmappedByte 4 :=
  .of_list [.forward, .forwardNote, .refuse, .divert]
    (fun b => by unfold unmappedOf; exact match b.toNat with | 0 | 1 | 2 | 3 => rfl | _ + 4 => rfl)
    rfl (fun v => by cases v <;> rfl)

theorem treatmentCoding : Coding treatmentOf treatmentByte 3 :=
  .of_list [.clear, .scramble, .null]
    (fun b => by unfold treatmentOf; exact match b.toNat with | 0 | 1 | 2 => rfl | _ + 3 => rfl)
    rfl (fun v => by cases v <;> rfl)

/-- Phase A is 0 and B is 1 (R177). -/
def phaseByte : Phase → Byte
  | .a => 0
  | .b => 1

theorem phaseCoding : Coding phaseOf phaseByte 2 :=
  .of_list [.a, .b]
    (fun b => by unfold phaseOf; exact match b.toNat with | 0 | 1 => rfl | _ + 2 => rfl)
    rfl (fun v => by cases v <;> rfl)

theorem jobKindCoding : Coding jobKindOf jobKindByte 4 :=
  .of_list [.fill, .convert, .sweep, .digest]
    (fun b => by unfold jobKindOf; exact match b.toNat with | 0 | 1 | 2 | 3 => rfl | _ + 4 => rfl)
    rfl (fun v => by cases v <;> rfl)

/-- The position of a group in the list of R168. -/
def groupPlaceByte (g : Group) : Byte := natByte (groupIndex g).val

theorem groupCoding : Coding groupOf groupPlaceByte 4 :=
  .of_list [.path, .keys, .jobs, .timebase]
    (fun b => by unfold groupOf; exact match b.toNat with | 0 | 1 | 2 | 3 => rfl | _ + 4 => rfl)
    rfl (fun v => by cases v <;> rfl)

/-! ### Numbers -/

theorem number_eq_some {n : Nat} {b : Byte} {i : Fin n} :
    (if h : b.toNat < n then some (⟨b.toNat, h⟩ : Fin n) else none) = some i ↔ b.toNat = i.val := by
  split
  case isTrue h => rw [Option.some.injEq, Fin.ext_iff]
  case isFalse h => exact ⟨nofun, fun hb => absurd (hb ▸ i.isLt) h⟩

theorem number_eq_none {n : Nat} {b : Byte} :
    (if h : b.toNat < n then some (⟨b.toNat, h⟩ : Fin n) else none) = none ↔ n ≤ b.toNat := by
  split
  case isTrue h => exact ⟨nofun, fun hb => absurd h (by omega)⟩
  case isFalse h => exact ⟨fun _ => by omega, fun _ => rfl⟩

theorem apertureOfByte_eq_some {i : ApertureNo} : apertureOfByte b = some i ↔ b.toNat = i.val := number_eq_some
theorem apertureOfByte_eq_none : apertureOfByte b = none ↔ 12 ≤ b.toNat := number_eq_none
theorem streamOfByte_eq_some {i : StreamNo} : streamOfByte b = some i ↔ b.toNat = i.val := number_eq_some
theorem streamOfByte_eq_none : streamOfByte b = none ↔ 48 ≤ b.toNat := number_eq_none
theorem serviceOfByte_eq_none : serviceOfByte b = none ↔ 24 ≤ b.toNat := number_eq_none
theorem jobOfByte_eq_some {j : JobNo} : jobOfByte b = some j ↔ b.toNat = j.val := number_eq_some
theorem jobOfByte_eq_none : jobOfByte b = none ↔ 6 ≤ b.toNat := number_eq_none

theorem natByte_toNat {n : Nat} (h : n < 256) : (natByte n).toNat = n := by
  rw [natByte, BitVec.toNat_ofNat, Nat.mod_eq_of_lt h]

/-! ### Numbers, least significant byte first (R177) -/

theorem getD_leBytes (k n : Nat) : ∀ j < k, (leBytes k n).getD j 0 = BitVec.ofNat 8 (n / 256 ^ j) := by
  induction k generalizing n with
  | zero => exact fun j hj => absurd hj (by omega)
  | succ k ih =>
    intro j hj
    cases j with
    | zero => rw [pow_zero, Nat.div_one]; rfl
    | succ j =>
      rw [leBytes, List.getD_cons_succ, ih (n / 256) j (by omega), Nat.div_div_eq_div_mul, pow_succ']

/-! ### The bytes of triggers (R177, R145) -/

theorem triggerOf_of_lt {kind which : Byte} (h : kind.toNat < 3) (h0 : which = 0) :
    ∃ t, triggerOf kind which = some t ∧ triggerBytes t = [kind, which] := by
  subst h0
  have hk : kind.toNat = 0 ∨ kind.toNat = 1 ∨ kind.toNat = 2 := by omega
  rcases hk with hk | hk | hk
  all_goals
    rw [byte_eq_of_toNat (by decide) hk]
    exact ⟨_, rfl, rfl⟩

theorem triggerOf_flip {kind which : Byte} (h : kind.toNat = 3) (hw : which.toNat < 24) :
    ∃ t, triggerOf kind which = some t ∧ triggerBytes t = [kind, which] := by
  refine ⟨.flip ⟨which.toNat, hw⟩, by simp [triggerOf, h, hw], ?_⟩
  rw [byte_eq_of_toNat (by decide) h, triggerBytes, natByte, BitVec.ofNat_toNat, BitVec.setWidth_eq]
  rfl

theorem triggerOf_done {kind which : Byte} (h : kind.toNat = 4) (hw : which.toNat < 6) :
    ∃ t, triggerOf kind which = some t ∧ triggerBytes t = [kind, which] := by
  refine ⟨.done ⟨which.toNat, hw⟩, by simp [triggerOf, h, hw], ?_⟩
  rw [byte_eq_of_toNat (by decide) h, triggerBytes, natByte, BitVec.ofNat_toNat, BitVec.setWidth_eq]
  rfl

/-- The two bytes of no trigger (R145; log 14). -/
def triggerBad (kind which : Byte) : Prop :=
  4 < kind.toNat ∨ (kind.toNat < 3 ∧ which ≠ 0) ∨ (kind.toNat = 3 ∧ 23 < which.toNat) ∨
    (kind.toNat = 4 ∧ 5 < which.toNat)

theorem triggerOf_of_bad {kind which : Byte} (h : triggerBad kind which) : triggerOf kind which = none := by
  rcases h with h | ⟨h, hw⟩ | ⟨h, hw⟩ | ⟨h, hw⟩
  · unfold triggerOf
    split
    case h_6 => rfl
    all_goals omega
  · unfold triggerOf
    split <;> simp_all
  · have hn : ¬ which.toNat < 24 := by omega
    simp [triggerOf, h, hn]
  · have hn : ¬ which.toNat < 6 := by omega
    simp [triggerOf, h, hn]

theorem triggerOf_of_not_bad {kind which : Byte} (h : ¬ triggerBad kind which) :
    ∃ t, triggerOf kind which = some t ∧ triggerBytes t = [kind, which] := by
  unfold triggerBad at h
  by_cases h3 : kind.toNat < 3
  · exact triggerOf_of_lt h3 (by_contra fun h0 => h (.inr (.inl ⟨h3, h0⟩)))
  · have hk : kind.toNat = 3 ∨ kind.toNat = 4 := by omega
    rcases hk with hk | hk
    · exact triggerOf_flip hk (by omega)
    · exact triggerOf_done hk (by omega)

end Sys2Proof.Machine
end

section
/-! PROOF. The commands of the path settings, the timebase and the capture queue (R24, R25, R33, R137 to
R139, R166, R167). -/

namespace Sys2Proof.Machine

variable {s : State} {b : Byte}

/-! ### Path settings (R24, R25) -/

theorem writePathReply_of_bad {action limit : Byte} (h : 4 ≤ action.toNat ∨ limit = 0) :
    writePathReply action limit s = ⟨.badParameter, [], s⟩ := by
  unfold writePathReply
  cases ha : unmappedOf action with
  | none => rfl
  | some a =>
    have hlt : ¬ 4 ≤ action.toNat := fun h4 => by rw [unmappedCoding.none.mpr h4] at ha; cases ha
    exact if_pos (h.resolve_left hlt)

theorem writePathReply_of_good {limit : Byte} (a : UnmappedAction) (h : limit ≠ 0) :
    writePathReply (unmappedByte a) limit s =
      ⟨.ok, [], { s with unmapped := a, idleLimit := limit.toNat }⟩ := by
  unfold writePathReply
  rw [unmappedCoding.read]
  exact if_neg h

/-- The requests of the pending list on a wait list are those the tally of READ_PATH counts (R9, R54). -/
theorem parkedCount_eq (s : State) : parkedCount s = (s.pendingList.filter fun e =>
    s.mergeTable.any fun m => m.waits.any fun x => decide (x.id = e.id)).length := by
  unfold parkedCount parked
  simp only [beq_eq_decide]

/-! ### READ_APERTURE (R33) -/

theorem readApertureReply_of_bad {entry clear : Byte} (h : 12 ≤ entry.toNat ∨ 2 ≤ clear.toNat) :
    readApertureReply entry clear s = ⟨.badParameter, [], s⟩ := by
  unfold readApertureReply
  rcases h with h | h
  · rw [apertureOfByte_eq_none.mpr h]
    rfl
  · rw [boolCoding.none.mpr h]
    cases apertureOfByte entry <;> rfl

theorem readApertureReply_of_good (i : ApertureNo) (c : Bool) :
    readApertureReply (natByte i.val) (boolByte c) s =
      ⟨.ok, apertureData s.apertures[i], if c then clearSaturation i s else s⟩ := by
  unfold readApertureReply
  rw [apertureOfByte_eq_some.mpr (natByte_toNat (by omega)), boolCoding.read]

/-! ### The timebase (R137 to R139) -/

theorem prescaleAllowed_iff : prescaleAllowed b = true ↔ b.toNat ∈ [1, 2, 4, 8, 16, 32, 64, 128] := by
  simp [prescaleAllowed, ← BitVec.toNat_inj, or_assoc]

/-- The parameters that WRITE_TIMEBASE refuses (R137). -/
def TimebaseBad (p : TimebaseParams) : Prop :=
  1 < p.select.toNat ∨ p.prescale.toNat ∉ [1, 2, 4, 8, 16, 32, 64, 128] ∨ p.divider = 0 ∨ p.limit = 0

theorem timebaseEdit_of_bad {p : TimebaseParams} (h : TimebaseBad p) : timebaseEdit p = none := by
  unfold timebaseEdit
  rcases h with h | h
  · rw [boolCoding.none.mpr h, ite_self]
  · refine if_neg fun hgood => ?_
    simp only [Bool.and_eq_true, decide_eq_true_eq, prescaleAllowed_iff] at hgood
    obtain ⟨⟨hprescale, hdivider⟩, hlimit⟩ := hgood
    exact h.elim (· hprescale) fun h => h.elim hdivider hlimit

theorem timebaseEdit_of_good {p : TimebaseParams} (h : ¬ TimebaseBad p) :
    timebaseEdit p = yesNo p.select := by
  unfold TimebaseBad at h
  push Not at h
  obtain ⟨-, hprescale, hdivider, hlimit⟩ := h
  refine if_pos ?_
  simp only [Bool.and_eq_true, decide_eq_true_eq, prescaleAllowed_iff]
  exact ⟨⟨hprescale, hdivider⟩, hlimit⟩

/-- The timebase with the values of WRITE_TIMEBASE stored, before its source select acts (R137). -/
def storedTimebase (p : TimebaseParams) (t : Timebase) : Timebase :=
  { t with
    prescale := p.prescale.toNat, divider := p.divider.toNat, limit := p.limit.toNat, division := 0 }

theorem writeTimebaseReply_of_bad {p : TimebaseParams} (h : TimebaseBad p) :
    writeTimebaseReply p s = ⟨.badParameter, [], s⟩ := by
  unfold writeTimebaseReply
  rw [timebaseEdit_of_bad h]
  rfl

theorem writeTimebaseReply_of_good {p : TimebaseParams} (c : Bool) (h : ¬ TimebaseBad p)
    (hc : p.select = boolByte c) : writeTimebaseReply p s =
      ⟨.ok, [], { s with time := selectSource c (storedTimebase p s.time) }⟩ := by
  unfold writeTimebaseReply
  rw [timebaseEdit_of_good h, hc, boolCoding.read]
  rfl

theorem selectSource_local {t : Timebase} (h : t.state ≠ .local) : selectSource false t = enterLocal t := by
  unfold selectSource
  cases hs : t.state <;> simp_all

theorem selectSource_reference {t : Timebase} (h : t.state = .local) :
    selectSource true t = { t with state := .acquiring, qualification := 0, countdown := 0 } := by
  unfold selectSource
  rw [h]

theorem selectSource_same {t : Timebase} {c : Bool} (h : c = false ↔ t.state = .local) :
    selectSource c t = t := by
  unfold selectSource
  cases c <;> cases hs : t.state <;> simp_all

theorem acceptLocalReply_of_holding (h : s.time.state = .holdover ∨ s.time.state = .frozen) :
    acceptLocalReply s = ⟨.ok, [], { s with time := enterLocal s.time }⟩ := by
  unfold acceptLocalReply
  rcases h with h | h <;> rw [h] <;> rfl

theorem acceptLocalReply_of_other
    (h : s.time.state = .local ∨ s.time.state = .acquiring ∨ s.time.state = .locked) :
    acceptLocalReply s = ⟨.state, [], s⟩ := by
  unfold acceptLocalReply
  rcases h with h | h | h <;> rw [h] <;> rfl

/-! ### The capture queue (R166, R167) -/

theorem readCaptureReply_of_nil (h : s.capture = []) :
    readCaptureReply s = ⟨.empty, [0, boolByte s.overrun], s⟩ := by
  rw [readCaptureReply, h]

theorem readCaptureReply_of_cons {r : CaptureRecord} {rest : List CaptureRecord} (h : s.capture = r :: rest) :
    readCaptureReply s =
      ⟨.ok, recordBytes r ++ [natByte rest.length, boolByte s.overrun], { s with capture := rest }⟩ := by
  rw [readCaptureReply, h]

end Sys2Proof.Machine

namespace Sys2Proof.Proofs
open Sys2Proof Sys2Proof.Machine

/-- Settles O37: each command answers what its reply gives in the state it finds. -/
theorem pathSettingsAndReads : Obligations.PathSettingsAndReads := by
  rintro s hl u rfl
  refine ⟨fun action limit => ⟨fun hbad => ?_, ?_⟩, ?_, fun entry clear => ⟨fun hbad => ?_, ?_⟩⟩
  · exact answers_of hl (writePathReply action limit) rfl rfl (writePathReply_of_bad hbad)
  · rintro hne a rfl
    exact answers_of hl (writePathReply _ limit) rfl rfl (writePathReply_of_good a hne)
  · rintro parked rfl
    refine answers_of hl (fun s => ⟨.ok, pathData s, s⟩) rfl rfl ?_
    rw [pathData, parkedCount_eq]
  · exact answers_of hl (readApertureReply entry clear) rfl rfl (readApertureReply_of_bad hbad)
  · rintro i rfl a data rfl rfl
    refine ⟨?_, ?_⟩
    · rintro rfl
      exact answers_of hl (readApertureReply _ _) rfl rfl (readApertureReply_of_good i false)
    · rintro rfl
      exact answers_of hl (readApertureReply _ _) rfl rfl (readApertureReply_of_good i true)

/-- Settles O45: the checks, and then the cases of the source select and of the reference state. -/
theorem writeTimebaseAndAcceptLocal : Obligations.WriteTimebaseAndAcceptLocal := by
  rintro s hl u rfl
  refine ⟨?_, fun h => ?_, fun h => ?_⟩
  · rintro p bad hbad b rfl
    have hiff : bad = TimebaseBad p := hbad
    have hanswer : ∀ {st t}, writeTimebaseReply p (settled s) = ⟨st, [], t⟩ →
        answers (.writeTimebase p) s st [] t := answers_of hl (writeTimebaseReply p) rfl rfl
    rw [hiff]
    refine ⟨fun h => hanswer (writeTimebaseReply_of_bad h), fun h hsel hstate => hanswer ?_,
      fun h hsel hstate => hanswer ?_, fun h hsame => hanswer ?_⟩
    · rw [writeTimebaseReply_of_good false h hsel, selectSource_local (t := storedTimebase p _) hstate]
      rfl
    · rw [writeTimebaseReply_of_good true h hsel, selectSource_reference (t := storedTimebase p _) hstate]
      rfl
    · obtain ⟨c, hc⟩ := Option.ne_none_iff_exists'.mp
        fun hnone : yesNo p.select = none => h (.inl (boolCoding.none.mp hnone))
      have hsel := boolCoding.byte hc
      have hlocal : c = false ↔ (settled s).time.state = .local := by
        rw [← hsame, hsel]
        cases c <;> decide
      rw [writeTimebaseReply_of_good c h hsel, selectSource_same (t := storedTimebase p _) hlocal]
      rfl
  · exact answers_of hl acceptLocalReply rfl rfl (acceptLocalReply_of_holding h)
  · exact answers_of hl acceptLocalReply rfl rfl (acceptLocalReply_of_other h)

/-- Settles O49: the fields of the record are those of the manual's list, an absent one zero. -/
theorem readCaptureAndClearOverrun : Obligations.ReadCaptureAndClearOverrun := by
  rintro s hl u rfl
  refine ⟨fun h => answers_of hl readCaptureReply rfl rfl (readCaptureReply_of_nil h), fun r rest h => ?_,
    answers_of hl (fun s => done { s with overrun := false }) rfl rfl rfl⟩
  have hreply := readCaptureReply_of_cons h
  refine answers_of hl readCaptureReply rfl rfl (hreply.trans ?_)
  congr 1
  rw [recordBytes]
  cases r.aperture <;> cases r.pid <;> cases r.service <;> cases r.reason <;> cases r.jobSlot <;> rfl

/-- Settles O46: the source select is REFERENCE in every state but LOCAL. -/
theorem readTimebaseReturnsTheTimebase : Obligations.ReadTimebaseReturnsTheTimebase := by
  rintro s hl u rfl t rfl
  refine answers_of hl (fun s => ⟨.ok, timebaseData s.time, s⟩) rfl rfl ?_
  have hsource : boolByte (sourceSelect (settled s).time)
      = if (settled s).time.state = .local then 0 else 1 := by
    unfold sourceSelect boolByte
    by_cases h : (settled s).time.state = .local <;> simp [h]
  rw [timebaseData, hsource]

end Sys2Proof.Proofs
end

section
/-! PROOF. The commands of the stream map (R79 to R82). -/

namespace Sys2Proof.Machine

variable {s : State} {p : StreamParams} {i : StreamNo} {e : StreamEntry}

/-! ### The optional fields of WRITE_STREAM (R80, R177; log 14) -/

/-- A PID that no entry may hold (R80). -/
def PidBad (v : BitVec 16) : Prop := 0x1FFF < v.toNat ∨ v.toNat ≤ 0x1F ∨ v.toNat = 0x1FFF

theorem streamPidOf_of_bad {v : BitVec 16} (h : PidBad v) : streamPidOf v = none := by
  refine if_neg fun hgood => ?_
  simp only [systemPid, Bool.and_eq_true, Bool.not_eq_true', Bool.or_eq_false_iff, decide_eq_true_eq,
    decide_eq_false_iff_not] at hgood
  unfold PidBad at h
  omega

theorem streamPidOf_of_good {v : BitVec 16} (h : ¬ PidBad v) :
    ∃ pid : Pid, streamPidOf v = some pid ∧ pid.toNat = v.toNat := by
  unfold PidBad at h
  refine ⟨BitVec.ofNat 13 v.toNat, if_pos ?_, ?_⟩
  · simp only [systemPid, Bool.and_eq_true, Bool.not_eq_true', Bool.or_eq_false_iff, decide_eq_true_eq,
      decide_eq_false_iff_not]
    omega
  · rw [BitVec.toNat_ofNat, Nat.mod_eq_of_lt (by omega)]

/-- An optional field is present, absent or coded by no byte. -/
theorem presence_cases (b : Byte) : 1 < b.toNat ∨ b = 0 ∨ b = 1 := by
  by_cases h0 : b.toNat = 0
  · exact .inr (.inl (byte_eq_of_toNat (by decide) h0))
  · by_cases h1 : b.toNat = 1
    · exact .inr (.inr (byte_eq_of_toNat (by decide) h1))
    · exact .inl (by omega)

/-- The two fields of an output that WRITE_STREAM refuses (R80). -/
def OutputBad (present : Byte) (v : BitVec 16) : Prop :=
  1 < present.toNat ∨ (present = 1 ∧ PidBad v) ∨ (present = 0 ∧ v ≠ 0)

theorem outputPidOf_of_bad {present : Byte} {v : BitVec 16} (h : OutputBad present v) :
    outputPidOf present v = none := by
  unfold outputPidOf
  rcases h with h | ⟨rfl, h⟩ | ⟨rfl, h⟩
  · rw [boolCoding.none.mpr h]
  · rw [show yesNo 1 = some true from rfl, streamPidOf_of_bad h]
    rfl
  · exact if_neg h

theorem outputPidOf_of_good {present : Byte} {v : BitVec 16} (h : ¬ OutputBad present v) :
    ∃ o : Option Pid, outputPidOf present v = some o ∧
      o.map (·.toNat) = if present = 1 then some v.toNat else none := by
  unfold OutputBad at h
  rcases presence_cases present with hp | rfl | rfl
  · exact absurd (.inl hp) h
  · exact ⟨none, if_pos (by_contra fun hv => h (.inr (.inr ⟨rfl, hv⟩))), rfl⟩
  · obtain ⟨pid, hpid, hnat⟩ := streamPidOf_of_good (v := v) fun hv => h (.inr (.inl ⟨rfl, hv⟩))
    refine ⟨some pid, ?_, by rw [if_pos rfl, Option.map_some, hnat]⟩
    rw [outputPidOf, show yesNo 1 = some true from rfl, hpid]
    rfl

/-- The two fields of a service that WRITE_STREAM refuses (R80). -/
def ServiceBad (present b : Byte) : Prop :=
  1 < present.toNat ∨ (present = 1 ∧ 23 < b.toNat) ∨ (present = 0 ∧ b ≠ 0)

theorem optionalServiceOf_of_bad {present b : Byte} (h : ServiceBad present b) :
    optionalServiceOf present b = none := by
  unfold optionalServiceOf
  rcases h with h | ⟨rfl, h⟩ | ⟨rfl, h⟩
  · rw [boolCoding.none.mpr h]
  · rw [show yesNo 1 = some true from rfl, serviceOfByte_of_gt h]
    rfl
  · exact if_neg h

theorem optionalServiceOf_of_good {present b : Byte} (h : ¬ ServiceBad present b) :
    ∃ o : Option ServiceNo, optionalServiceOf present b = some o ∧ (o.isSome ↔ present = 1) ∧
      o.map (·.val) = if present = 1 then some b.toNat else none := by
  unfold ServiceBad at h
  rcases presence_cases present with hp | rfl | rfl
  · exact absurd (.inl hp) h
  · exact ⟨none, if_pos (by_contra fun hv => h (.inr (.inr ⟨rfl, hv⟩))), by decide, rfl⟩
  · have hlt : b.toNat < 24 := by_contra fun hb => h (.inr (.inl ⟨rfl, by omega⟩))
    refine ⟨some ⟨b.toNat, hlt⟩, ?_, iff_of_true rfl rfl, by rw [if_pos rfl, Option.map_some]⟩
    rw [optionalServiceOf, show yesNo 1 = some true from rfl,
      serviceOfByte_of_toNat_eq (i := ⟨b.toNat, hlt⟩) rfl]
    rfl

/-! ### The parameter checks of WRITE_STREAM (R80) -/

/-- The parameters that WRITE_STREAM refuses (R80). -/
def StreamBad (p : StreamParams) : Prop :=
  47 < p.entry.toNat ∨ 1 < p.valid.toNat ∨ 2 < p.treatment.toNat ∨ PidBad p.input ∨
    1 < p.outputPresent.toNat ∨ (p.outputPresent = 1 ∧ PidBad p.output) ∨
    (p.outputPresent = 0 ∧ p.output ≠ 0) ∨ 1 < p.servPresent.toNat ∨
    (p.treatment = 1 ∧ p.servPresent = 0) ∨ (p.servPresent = 1 ∧ p.treatment ≠ 1) ∨
    (p.servPresent = 1 ∧ 23 < p.service.toNat) ∨ (p.servPresent = 0 ∧ p.service ≠ 0)

/-- The entry number and contents read from the parameters (R80). -/
structure StreamRead (p : StreamParams) (i : StreamNo) (e : StreamEntry) : Prop where
  entry : streamOfByte p.entry = some i
  valid : yesNo p.valid = some e.valid
  input : streamPidOf p.input = some e.input
  output : outputPidOf p.outputPresent p.output = some e.output
  service : optionalServiceOf p.servPresent p.service = some e.service
  treatment : treatmentOf p.treatment = some e.treatment
  agrees : serviceAgrees e.treatment e.service = true

theorem streamEdit_of_read (h : StreamRead p i e) : streamEdit p = some (i, e) := by
  obtain ⟨hentry, hvalid, hinput, houtput, hservice, htreatment, hagrees⟩ := h
  unfold streamEdit
  rw [hentry, hvalid, hinput, houtput, hservice, htreatment]
  exact if_pos hagrees

theorem read_of_streamEdit (h : streamEdit p = some (i, e)) : StreamRead p i e := by
  unfold streamEdit at h
  split at h
  case h_2 => cases h
  case h_1 hentry hvalid hinput houtput hservice htreatment =>
    split at h
    case isFalse => cases h
    case isTrue hagrees =>
      obtain ⟨rfl, rfl⟩ := Option.some.inj h
      exact ⟨hentry, hvalid, hinput, houtput, hservice, htreatment, hagrees⟩

theorem serviceAgrees_iff (t : Treatment) (o : Option ServiceNo) :
    serviceAgrees t o = true ↔ (t = .scramble ↔ o.isSome = true) := by
  rw [serviceAgrees, beq_iff_eq, Bool.eq_iff_iff, decide_eq_true_eq]

/-- The service a present byte announces agrees with the treatment (R79, R80). -/
theorem agrees_iff_bytes {t : Treatment} {o : Option ServiceNo} (ht : treatmentOf p.treatment = some t)
    (ho : o.isSome ↔ p.servPresent = 1) :
    serviceAgrees t o = true ↔ (p.treatment = 1 ↔ p.servPresent = 1) := by
  rw [serviceAgrees_iff, ho, treatmentCoding.byte ht]
  cases t <;> simp [treatmentByte]

theorem streamBad_iff (p : StreamParams) : StreamBad p ↔
    47 < p.entry.toNat ∨ 1 < p.valid.toNat ∨ 2 < p.treatment.toNat ∨ PidBad p.input ∨
      OutputBad p.outputPresent p.output ∨ ServiceBad p.servPresent p.service ∨
      ¬ (p.treatment = 1 ↔ p.servPresent = 1) := by
  unfold StreamBad OutputBad ServiceBad
  rcases presence_cases p.servPresent with h | h | h
  · simp only [h, true_or, or_true]
  · have h01 : ¬ (0 : Byte) = 1 := by decide
    simp only [h, h01, and_true, false_and, iff_false, not_not, true_and, false_or, or_assoc]
    tauto
  · have h10 : ¬ (1 : Byte) = 0 := by decide
    simp only [h, h10, and_false, iff_true, true_and, false_and, or_false, or_assoc]
    tauto

theorem streamEdit_of_bad (h : StreamBad p) : streamEdit p = none := by
  rw [streamBad_iff] at h
  by_contra hne
  obtain ⟨⟨i, e⟩, hsome⟩ := Option.ne_none_iff_exists'.mp hne
  obtain ⟨hentry, hvalid, hinput, houtput, hservice, htreatment, hagrees⟩ := read_of_streamEdit hsome
  have hgood : ¬ ServiceBad p.servPresent p.service := fun hb => by
    rw [optionalServiceOf_of_bad hb] at hservice
    cases hservice
  rcases h with h | h | h | h | h | h | h
  · rw [streamOfByte_eq_none.mpr h] at hentry
    cases hentry
  · rw [boolCoding.none.mpr h] at hvalid
    cases hvalid
  · rw [treatmentCoding.none.mpr h] at htreatment
    cases htreatment
  · rw [streamPidOf_of_bad h] at hinput
    cases hinput
  · rw [outputPidOf_of_bad h] at houtput
    cases houtput
  · exact hgood h
  · obtain ⟨o, ho, hpresent, -⟩ := optionalServiceOf_of_good hgood
    obtain rfl : e.service = o := Option.some.inj (hservice.symm.trans ho)
    exact h ((agrees_iff_bytes htreatment hpresent).mp hagrees)

/-- Parameters that WRITE_STREAM takes are read as an entry with their values (R80). -/
theorem streamEdit_of_good (h : ¬ StreamBad p) : ∃ i e, StreamRead p i e ∧
    e.input.toNat = p.input.toNat ∧
    e.output.map (·.toNat) = (if p.outputPresent = 1 then some p.output.toNat else none) ∧
    e.service.map (·.val) = (if p.servPresent = 1 then some p.service.toNat else none) := by
  rw [streamBad_iff] at h
  simp only [not_or, not_not] at h
  obtain ⟨hentry, hvalid, htreatment, hinput, houtput, hservice, hagrees⟩ := h
  obtain ⟨i, hi⟩ := Option.ne_none_iff_exists'.mp (mt streamOfByte_eq_none.mp hentry)
  obtain ⟨valid, hv⟩ := Option.ne_none_iff_exists'.mp (mt boolCoding.none.mp hvalid)
  obtain ⟨t, ht⟩ := Option.ne_none_iff_exists'.mp (mt treatmentCoding.none.mp htreatment)
  obtain ⟨input, hin, hinNat⟩ := streamPidOf_of_good hinput
  obtain ⟨output, hout, houtNat⟩ := outputPidOf_of_good houtput
  obtain ⟨service, hserv, hpresent, hservNat⟩ := optionalServiceOf_of_good hservice
  exact ⟨i, ⟨valid, input, output, service, t⟩,
    ⟨hi, hv, hin, hout, hserv, ht, (agrees_iff_bytes ht hpresent).mpr hagrees⟩, hinNat, houtNat, hservNat⟩

/-! ### The duplicate check (R81) and the replies (R80, R82) -/

theorem streamDuplicate_iff (s : State) (i : StreamNo) (e : StreamEntry) :
    streamDuplicate s i e = true ↔ e.valid = true ∧ ∃ j : StreamNo, j ≠ i ∧ s.streams[j].valid = true ∧
      (s.streams[j].input = e.input ∨
        s.streams[j].output.getD s.streams[j].input = e.output.getD e.input) := by
  simp only [streamDuplicate, streamsMeet, effectiveOutput, Bool.and_eq_true, List.any_eq_true,
    List.mem_finRange, true_and, decide_eq_true_eq, Bool.or_eq_true, beq_iff_eq, and_assoc,
    eq_comm (a := e.input), eq_comm (a := e.output.getD e.input)]

theorem writeStreamReply_of_bad (h : StreamBad p) : writeStreamReply p s = ⟨.badParameter, [], s⟩ := by
  rw [writeStreamReply, streamEdit_of_bad h]
  rfl

theorem writeStreamReply_of_duplicate (h : StreamRead p i e) (hd : streamDuplicate s i e = true) :
    writeStreamReply p s = ⟨.duplicate, [], s⟩ := by
  rw [writeStreamReply, streamEdit_of_read h]
  exact if_pos hd

theorem writeStreamReply_of_good (h : StreamRead p i e) (hd : ¬ streamDuplicate s i e = true) :
    writeStreamReply p s = ⟨.ok, [], { s with streams := s.streams.set i e }⟩ := by
  rw [writeStreamReply, streamEdit_of_read h]
  exact if_neg hd

theorem readStreamReply_of_gt {entry : Byte} (h : 47 < entry.toNat) :
    readStreamReply entry s = ⟨.badParameter, [], s⟩ := by
  rw [readStreamReply, streamOfByte_eq_none.mpr h]
  rfl

theorem readStreamReply_of_toNat_eq {entry : Byte} (h : entry.toNat = i.val) :
    readStreamReply entry s = ⟨.ok, streamData s.streams[i], s⟩ := by
  rw [readStreamReply, streamOfByte_eq_some.mpr h]

end Sys2Proof.Machine

namespace Sys2Proof.Proofs
open Sys2Proof Sys2Proof.Machine

/-- Settles O40: the parameters are refused or read as an entry, which is then compared with the others. -/
theorem writeAndReadStream : Obligations.WriteAndReadStream := by
  rintro s hl u rfl
  refine ⟨?_, fun entry => ⟨fun h => ?_, ?_⟩⟩
  · rintro p badPid rfl bad hbad
    have hiff : bad = StreamBad p := hbad
    have hanswer : ∀ {st t}, writeStreamReply p (settled s) = ⟨st, [], t⟩ →
        answers (.writeStream p) s st [] t :=
      answers_of hl (writeStreamReply p) rfl (by rw [(Laws.FrameCoding.writeStream p).1])
    rw [hiff]
    refine ⟨fun h => hanswer (writeStreamReply_of_bad h), fun h => ?_⟩
    obtain ⟨i, e, hread, hinput, houtput, hservice⟩ := streamEdit_of_good h
    refine ⟨i, e, (streamOfByte_eq_some.mp hread.entry).symm, ?_, hinput, houtput, hservice,
      (treatmentCoding.byte hread.treatment).symm, ?_⟩
    · rw [boolCoding.byte hread.valid]
      cases e.valid <;> decide
    · rintro duplicate rfl
      rw [← streamDuplicate_iff]
      exact ⟨fun hd => hanswer (writeStreamReply_of_duplicate hread hd),
        fun hd => hanswer (writeStreamReply_of_good hread hd)⟩
  · exact answers_of hl (readStreamReply entry) rfl rfl (readStreamReply_of_gt h)
  · rintro i h e rfl
    refine answers_of hl (readStreamReply entry) rfl rfl ((readStreamReply_of_toNat_eq h).trans ?_)
    rw [streamData]
    cases (settled s).streams[i].output <;> cases (settled s).streams[i].service <;> rfl

end Sys2Proof.Proofs
end

section
/-! PROOF. The commands of the service key table (R110, R112 to R116, R118, R120, R123, R125, R127). -/

namespace Sys2Proof.Machine

variable {s : State} {i : ServiceNo} {p : Phase} {v : Service} {k : KeySlot}

/-! ### The key-wanted indication of a service's new contents (R125) -/

theorem putService_of_no_rise (h : keyWanted v = true → keyWanted s.services[i] = true) :
    putService i v s = { s with services := s.services.set i v } := by
  rw [putService_eq]
  refine if_neg fun ⟨hold, hnew⟩ => ?_
  rw [h hnew] at hold
  cases hold

theorem keyWanted_of_idle (h : v.state = .idle) : keyWanted v = false := by
  simp [keyWanted, h]

theorem keyWanted_of_no_active (h : v.state ≠ .idle) (hn : activePhase v = none) : keyWanted v = true :=
  (keyWanted_iff v).mpr ⟨h, .inl hn⟩

theorem keyWanted_flipped (p : Phase) (v : Service) : keyWanted (flipped p v) = false := by
  cases p <;> simp [keyWanted, flipped, nextState, activePhase, otherPhase, keySlot, withKeySlot]

theorem activePhase_withKeySlot (hk : k.state ≠ .active) (hv : (keySlot v p).state ≠ .active) :
    activePhase (withKeySlot p k v) = activePhase v := by
  cases p with
  | a => exact (if_neg hk).trans (if_neg hv).symm
  | b =>
    unfold activePhase
    exact ite_congr rfl (fun _ => rfl) fun _ => (if_neg hk).trans (if_neg hv).symm

theorem otherPhase_of_ne {q : Phase} (h : q ≠ p) : otherPhase q = p := by
  cases p <;> cases q
  case a.b | b.a => rfl
  case a.a | b.b => exact absurd rfl h

theorem state_withKeySlot (p : Phase) (k : KeySlot) (v : Service) : (withKeySlot p k v).state = v.state := by
  cases p <;> rfl

/-- A loaded slot is not EMPTY, so a load makes no service want a key. -/
theorem keyWanted_of_loaded {word : ControlWord} (hv : (keySlot v p).state ≠ .active)
    (h : keyWanted (withKeySlot p (loaded word (keySlot v p)) v) = true) : keyWanted v = true := by
  obtain ⟨hstate, hnext⟩ := (keyWanted_iff _).mp h
  have hready : (loaded word (keySlot v p)).state ≠ .active := by simp [loaded]
  rw [state_withKeySlot] at hstate
  rw [activePhase_withKeySlot hready hv] at hnext
  cases ha : activePhase v with
  | none => exact keyWanted_of_no_active hstate ha
  | some q =>
    have hq : q ≠ p := fun heq => hv (heq ▸ state_of_activePhase ha)
    have hloaded : nextState (withKeySlot p (loaded word (keySlot v p)) v) = some .ready := by
      rw [nextState_of_active ((activePhase_withKeySlot hready hv).trans ha), otherPhase_of_ne hq,
        keySlot_withKeySlot]
      rfl
    rw [ha, hloaded] at hnext
    exact absurd hnext (by simp)

theorem putService_loaded {word : ControlWord} (hv : (keySlot s.services[i] p).state ≠ .active) :
    putService i (withKeySlot p (loaded word (keySlot s.services[i] p)) s.services[i]) s =
      { s with
        services := s.services.set i
          (withKeySlot p (loaded word (keySlot s.services[i] p)) s.services[i]) } :=
  putService_of_no_rise (keyWanted_of_loaded hv)

theorem service_stored (i : ServiceNo) (v : Service) (s : State) :
    ({ s with services := s.services.set i v } : State).services[i] = v := by
  simp

/-- The resumption of a service whose slot `p` has just been loaded (R114). -/
theorem resumed_loaded (p : Phase) (word : ControlWord) (v : Service) :
    withKeySlot p { keySlot (withKeySlot p (loaded word (keySlot v p)) v) p with state := .active }
        { withKeySlot p (loaded word (keySlot v p)) v with
          state := .running, counter := (withKeySlot p (loaded word (keySlot v p)) v).period } =
      withKeySlot p { keySlot v p with state := .active, key := word }
        { v with state := .running, counter := v.period } := by
  cases p <;> rfl

/-! ### WRITE_SERVICE (R110) -/

/-- The parameters that WRITE_SERVICE refuses (R110). -/
def ServiceEditBad (p : ServiceParams) : Prop :=
  23 < p.service.toNat ∨ p.period.toNat < 10 ∨ p.guard.toNat < 1 ∨ 65534 < p.guard.toNat ∨
    15 < p.limit.toNat ∨ 1 < p.policy.toNat ∨ p.period.toNat ≤ p.guard.toNat

theorem serviceEdit_of_bad {p : ServiceParams} (h : ServiceEditBad p) : serviceEdit p = none := by
  unfold serviceEdit
  cases hi : serviceOfByte p.service with
  | none => rfl
  | some i =>
    cases hpolicy : clearOrNullOf p.policy with
    | none => rfl
    | some policy =>
      refine if_neg fun hgood => ?_
      have hservice : ¬ 24 ≤ p.service.toNat := fun h => by
        rw [serviceOfByte_eq_none.mpr h] at hi
        cases hi
      have hcode : ¬ 2 ≤ p.policy.toNat := fun h => by
        rw [clearOrNullCoding.none.mpr h] at hpolicy
        cases hpolicy
      simp only [Bool.and_eq_true, decide_eq_true_eq] at hgood
      unfold ServiceEditBad at h
      omega

theorem serviceEdit_of_good {p : ServiceParams} {policy : ClearOrNull} (hi : p.service.toNat = i.val)
    (hperiod : 10 ≤ p.period.toNat) (hguard : 1 ≤ p.guard.toNat) (hlimit : p.limit.toNat ≤ 15)
    (hpolicy : p.policy = clearOrNullByte policy) (hless : p.guard.toNat < p.period.toNat) :
    serviceEdit p = some (i, policy) := by
  unfold serviceEdit
  rw [serviceOfByte_of_toNat_eq hi, hpolicy, clearOrNullCoding.read]
  refine if_pos ?_
  simp only [Bool.and_eq_true, decide_eq_true_eq]
  omega

/-- The four values of WRITE_SERVICE in place of a service's (R110). -/
def withValues (p : ServiceParams) (policy : ClearOrNull) (v : Service) : Service :=
  { v with period := p.period.toNat, guard := p.guard.toNat, limit := p.limit.toNat, policy := policy }

theorem keyWanted_withValues (p : ServiceParams) (policy : ClearOrNull) (v : Service) :
    keyWanted (withValues p policy v) = keyWanted v := rfl

theorem writeServiceReply_of_bad {p : ServiceParams} (h : ServiceEditBad p) :
    writeServiceReply p s = ⟨.badParameter, [], s⟩ := by
  rw [writeServiceReply, serviceEdit_of_bad h]
  rfl

theorem writeServiceReply_of_good {p : ServiceParams} {policy : ClearOrNull}
    (h : serviceEdit p = some (i, policy)) : writeServiceReply p s = ⟨.ok, [], retire i .b (retire i .a
      { s with services := s.services.set i (withValues p policy s.services[i]) })⟩ := by
  have hput := putService_of_same (s := s) (keyWanted_withValues p policy s.services[i])
  rw [writeServiceReply, h]
  exact congrArg (fun t => (⟨.ok, [], retire i .b (retire i .a t)⟩ : Reply)) hput

/-! ### LOAD_KEY (R112 to R114, R127) -/

theorem loadKeyReply_of_bad {service phase : Byte} {word : ControlWord}
    (h : 23 < service.toNat ∨ 1 < phase.toNat) :
    loadKeyReply service phase word s = ⟨.badParameter, [], s⟩ := by
  unfold loadKeyReply
  rcases h with h | h
  · rw [serviceOfByte_of_gt h]
    rfl
  · rw [phaseCoding.none.mpr h]
    cases serviceOfByte service <;> rfl

section
variable {service phase : Byte} {word : ControlWord} (hi : service.toNat = i.val) (hp : phaseOf phase = some p)
include hi hp

theorem loadKeyReply_of_held (h : s.purgeHeld = true) :
    loadKeyReply service phase word s = ⟨.purgeHeld, [], s⟩ := by
  unfold loadKeyReply
  rw [serviceOfByte_of_toNat_eq hi, hp]
  exact if_pos h

theorem loadKeyReply_of_active (h : s.purgeHeld = false) (hk : (keySlot s.services[i] p).state = .active) :
    loadKeyReply service phase word s = ⟨.activeSlot, [], s⟩ := by
  unfold loadKeyReply
  rw [serviceOfByte_of_toNat_eq hi, hp]
  simp only [h, Bool.false_eq_true, if_false, hk, refuse]

theorem loadKeyReply_of_retiring (h : s.purgeHeld = false)
    (hk : (keySlot s.services[i] p).state = .retiring) :
    loadKeyReply service phase word s = ⟨.slotBusy, [], s⟩ := by
  unfold loadKeyReply
  rw [serviceOfByte_of_toNat_eq hi, hp]
  simp only [h, Bool.false_eq_true, if_false, hk, refuse]

theorem loadKeyReply_of_loadable (h : s.purgeHeld = false)
    (hk : (keySlot s.services[i] p).state = .empty ∨ (keySlot s.services[i] p).state = .ready) :
    loadKeyReply service phase word s = ⟨.ok, [], afterLoad i p { s with
      services := s.services.set i
        (withKeySlot p (loaded word (keySlot s.services[i] p)) s.services[i]) }⟩ := by
  have hloadable : (keySlot s.services[i] p).state ≠ .active := by
    rcases hk with hk | hk <;> rw [hk] <;> decide
  have hput := congrArg (fun t => (⟨.ok, [], afterLoad i p t⟩ : Reply))
    (putService_loaded (word := word) hloadable)
  unfold loadKeyReply
  rw [serviceOfByte_of_toNat_eq hi, hp]
  refine (if_neg (by rw [h]; decide)).trans ?_
  rcases hk with hk | hk
  all_goals
    rw [hk]
    exact hput

end

theorem afterLoad_of_steady (h : s.services[i].state = .idle ∨ s.services[i].state = .running) :
    afterLoad i p s = s := by
  unfold afterLoad
  dsimp only
  rcases h with h | h <;> rw [h]

theorem afterLoad_of_active (h : s.services[i].state = .starved ∨ s.services[i].state = .withholding)
    (ha : activePhase s.services[i] ≠ none) : afterLoad i p s = flipService i s := by
  obtain ⟨q, hq⟩ := Option.ne_none_iff_exists'.mp ha
  unfold afterLoad
  dsimp only
  rcases h with h | h <;> rw [h, hq]

/-- A WITHHOLDING service without an ACTIVE slot wants a key already, so its resumption sets no cause. -/
theorem afterLoad_of_withholding (h : s.services[i].state = .withholding)
    (ha : activePhase s.services[i] = none) : afterLoad i p s =
      { s with
        services := s.services.set i
          (withKeySlot p { keySlot s.services[i] p with state := .active }
            { s.services[i] with state := .running, counter := s.services[i].period }) } := by
  unfold afterLoad
  dsimp only
  rw [h, ha]
  exact putService_of_no_rise fun _ => keyWanted_of_no_active (by rw [h]; decide) ha

/-! ### START, STOP and FLIP (R115, R116, R120) -/

theorem startReply_of_bad {service phase : Byte} (h : 23 < service.toNat ∨ 1 < phase.toNat) :
    startReply service phase s = ⟨.badParameter, [], s⟩ := by
  unfold startReply
  rcases h with h | h
  · rw [serviceOfByte_of_gt h]
    rfl
  · rw [phaseCoding.none.mpr h]
    cases serviceOfByte service <;> rfl

theorem stopReply_of_gt {service : Byte} (h : 23 < service.toNat) :
    stopReply service s = ⟨.badParameter, [], s⟩ := by
  rw [stopReply, serviceOfByte_of_gt h]
  rfl

theorem flipReply_of_gt {service : Byte} (h : 23 < service.toNat) :
    flipReply service s = ⟨.badParameter, [], s⟩ := by
  rw [flipReply, serviceOfByte_of_gt h]
  rfl

section
variable {service phase : Byte} (hi : service.toNat = i.val)
include hi

theorem startReply_of_started (hp : phaseOf phase = some p) (h : s.services[i].state ≠ .idle) :
    startReply service phase s = ⟨.state, [], s⟩ := by
  unfold startReply
  rw [serviceOfByte_of_toNat_eq hi, hp]
  exact if_pos h

theorem startReply_of_no_key (hp : phaseOf phase = some p) (h : s.services[i].state = .idle)
    (hk : (keySlot s.services[i] p).state ≠ .ready) : startReply service phase s = ⟨.noKey, [], s⟩ := by
  unfold startReply
  rw [serviceOfByte_of_toNat_eq hi, hp]
  exact (if_neg (not_not.mpr h)).trans (if_pos hk)

theorem startReply_of_ready (hp : phaseOf phase = some p) (h : s.services[i].state = .idle)
    (hk : (keySlot s.services[i] p).state = .ready) :
    startReply service phase s = ⟨.ok, [], putService i (started p s.services[i]) s⟩ := by
  unfold startReply
  rw [serviceOfByte_of_toNat_eq hi, hp]
  exact (if_neg (not_not.mpr h)).trans (if_neg (not_not.mpr hk))

theorem stopReply_of_idle (h : s.services[i].state = .idle) : stopReply service s = ⟨.state, [], s⟩ := by
  rw [stopReply, serviceOfByte_of_toNat_eq hi]
  exact if_pos h

theorem stopReply_of_started (h : s.services[i].state ≠ .idle) :
    stopReply service s = ⟨.ok, [], { s with services := s.services.set i (stopped s.services[i]) }⟩ := by
  rw [stopReply, serviceOfByte_of_toNat_eq hi]
  have hput : putService i (stopped s.services[i]) s = _ :=
    putService_of_no_rise fun hw => by rw [keyWanted_of_idle rfl] at hw; cases hw
  exact (if_neg h).trans (congrArg (fun t => (⟨.ok, [], t⟩ : Reply)) hput)

theorem flipReply_of_idle (h : s.services[i].state = .idle) : flipReply service s = ⟨.state, [], s⟩ := by
  rw [flipReply, serviceOfByte_of_toNat_eq hi]
  simp only [h, refuse]

theorem flipReply_of_no_key (h : s.services[i].state = .starved ∨ s.services[i].state = .withholding ∨
    (s.services[i].state = .running ∧ nextState s.services[i] ≠ some .ready)) :
    flipReply service s = ⟨.noKey, [], s⟩ := by
  rw [flipReply, serviceOfByte_of_toNat_eq hi]
  rcases h with h | h | ⟨h, hn⟩
  · simp only [h, refuse]
  · simp only [h, refuse]
  · simp only [h, hn, if_false, refuse]

theorem flipReply_of_ready (h : s.services[i].state = .running) (ha : activePhase s.services[i] = some p)
    (hn : nextState s.services[i] = some .ready) : flipReply service s =
      ⟨.ok, [], select (deliver (.flip i)
        { s with services := s.services.set i (flipped p s.services[i]) })⟩ := by
  have hput : putService i (flipped p s.services[i]) s = _ :=
    putService_of_no_rise fun hw => by rw [keyWanted_flipped] at hw; cases hw
  rw [flipReply, serviceOfByte_of_toNat_eq hi]
  simp only [h, hn, if_true, done]
  rw [flipService_of_active ha, hput]

end

end Sys2Proof.Machine

namespace Sys2Proof.Proofs
open Sys2Proof Sys2Proof.Machine

/-- Settles O41: the values stored leave the key-wanted indication, and the retirements follow. -/
theorem writeServiceSetsTheFourValues : Obligations.WriteServiceSetsTheFourValues := by
  rintro p s hl u rfl
  have hanswer : ∀ {st t}, writeServiceReply p (settled s) = ⟨st, [], t⟩ →
      answers (.writeService p) s st [] t :=
    answers_of hl (writeServiceReply p) rfl (by rw [(Laws.FrameCoding.writeService p).1])
  refine ⟨fun h => hanswer (writeServiceReply_of_bad h), ?_⟩
  rintro i policy hi hperiod hguard hlimit hpolicy hless v rfl
  exact hanswer (writeServiceReply_of_good (serviceEdit_of_good hi hperiod hguard hlimit hpolicy hless))

/-- Settles O43: the checks in their order, and then what follows the load by the service's state. -/
theorem loadKeyLoadsFlipsOrResumes : Obligations.LoadKeyLoadsFlipsOrResumes := by
  rintro service phase word s hl u rfl
  have hanswer : ∀ {st t}, loadKeyReply service phase word (settled s) = ⟨st, [], t⟩ →
      answers (.loadKey service phase word) s st [] t :=
    answers_of hl (loadKeyReply service phase word) rfl (by rw [(Laws.FrameCoding.loadKey _ _ _).1])
  refine ⟨fun h => hanswer (loadKeyReply_of_bad h), ?_⟩
  rintro i p hi hp v k rfl rfl
  refine ⟨fun h => hanswer (loadKeyReply_of_held hi hp h), fun h =>
    ⟨fun hk => hanswer (loadKeyReply_of_active hi hp h hk),
      fun hk => hanswer (loadKeyReply_of_retiring hi hp h hk), ?_⟩⟩
  rintro hk w rfl
  have hload := loadKeyReply_of_loadable (word := word) hi hp h hk
  have hk' : (keySlot (settled s).services[i] p).state ≠ .active := by
    rcases hk with hk | hk <;> rw [hk] <;> decide
  refine ⟨fun hst => hanswer (hload.trans ?_), fun hst ha => hanswer (hload.trans ?_),
    fun hst ha => hanswer (hload.trans ?_)⟩
  · rw [afterLoad_of_steady (by rwa [service_stored, state_withKeySlot])]
    rfl
  · rw [afterLoad_of_active (by rwa [service_stored, state_withKeySlot])
      (by rwa [service_stored, activePhase_withKeySlot (by simp [loaded]) hk'])]
    rfl
  · rw [afterLoad_of_withholding (by rwa [service_stored, state_withKeySlot])
      (by rwa [service_stored, activePhase_withKeySlot (by simp [loaded]) hk'])]
    rw [service_stored, resumed_loaded]
    dsimp only
    rw [Vector.set_set]

/-- Settles O44: the checks of each command in their order, and then its effect. -/
theorem startStopAndFlip : Obligations.StartStopAndFlip := by
  rintro service phase s hl u rfl
  have hstart : ∀ {st t}, startReply service phase (settled s) = ⟨st, [], t⟩ →
      answers (.start service phase) s st [] t := answers_of hl (startReply service phase) rfl rfl
  have hstop : ∀ {st t}, stopReply service (settled s) = ⟨st, [], t⟩ →
      answers (.stop service) s st [] t := answers_of hl (stopReply service) rfl rfl
  have hflip : ∀ {st t}, flipReply service (settled s) = ⟨st, [], t⟩ →
      answers (.flip service) s st [] t := answers_of hl (flipReply service) rfl rfl
  refine ⟨fun h => ⟨hstop (stopReply_of_gt h), hflip (flipReply_of_gt h)⟩,
    fun h => hstart (startReply_of_bad h), ?_⟩
  rintro i hi v rfl
  refine ⟨fun p hp => ⟨fun h => hstart (startReply_of_started hi hp h),
      fun h hk => hstart (startReply_of_no_key hi hp h hk),
      fun h hk => hstart (startReply_of_ready hi hp h hk)⟩,
    fun h => ⟨hstop (stopReply_of_idle hi h), hflip (flipReply_of_idle hi h)⟩, ?_,
    fun h => hflip (flipReply_of_no_key hi h), ?_⟩
  · rintro h rest rfl x rfl
    exact hstop (stopReply_of_started hi h)
  · rintro p h ha hn x rfl
    exact hflip (flipReply_of_ready hi h ha hn)

end Sys2Proof.Proofs
end

section
/-! PROOF. Read periods and request periods that name no command (R174, R175, R177). -/

namespace Sys2Proof.Machine

variable {s : State}

theorem firstOut_eq (s : State) : firstOut s = if s.heldResponse = none then 0x00 else 0x5A := by
  unfold firstOut
  cases s.heldResponse <;> rfl

/-! ### Read periods (R174) -/

theorem exec_readPeriod {edges : Nat} (hl : listening s) : exec (.readPeriod edges) s =
    .next (if edges < 8 then s else endRead (edges / 8) (settled s)) := by
  have hig : ignoring s = false := by
    obtain ⟨hreset, hselect⟩ := hl
    rw [ignoring, hreset, hselect]
    rfl
  change Host.Outcome.next (if ignoring s then _ else _) = _
  rw [hig]
  rfl

theorem endRead_of_none {n : Nat} (h : s.heldResponse = none) : endRead n s =
    { s with readPosition := 0, miso := 0x00 :: List.replicate (n - 1) 0xFF } := by
  rw [endRead, firstOut, h]
  simp only [Option.getD_none, List.length_nil, Nat.zero_le, decide_true, if_true, Option.isSome_none,
    List.take_nil, List.nil_append, Nat.sub_zero, Bool.false_eq_true, if_false]

/-- A response clocked out whole is gone (R174). -/
theorem endRead_of_whole {n : Nat} {f : List Byte} (h : s.heldResponse = some f) (hn : f.length < n) :
    endRead n s = { s with
      heldResponse := none
      readPosition := 0
      miso := 0x5A :: (f ++ List.replicate (n - 1 - f.length) 0xFF) } := by
  have hle : f.length ≤ n - 1 := by omega
  rw [endRead, firstOut, h]
  simp only [Option.getD_some, hle, decide_true, if_true, Option.isSome_some, List.take_of_length_le]

/-- A response clocked out in part stays held (R174). -/
theorem endRead_of_part {n : Nat} {f : List Byte} (h : s.heldResponse = some f) (hpos : 0 < n)
    (hn : n ≤ f.length) : endRead n s = { s with
      readPosition := n - 1
      miso := 0x5A :: f.take (n - 1) } := by
  have hle : ¬ f.length ≤ n - 1 := by omega
  have hsub : n - 1 - f.length = 0 := by omega
  rw [endRead, firstOut, h]
  simp only [Option.getD_some, hle, decide_false, Bool.false_eq_true, if_false, Option.isSome_some, if_true, hsub,
    List.replicate_zero, List.append_nil]

/-! ### Request periods that name no command (R175) -/

theorem requestPeriod_refuse {n : Nat} (hl : listening s) (st : PortStatus) :
    requestPeriod n (refuse st) s = { settled s with
      heldResponse := some [statusByte st, 0x00, crc8 [statusByte st, 0x00]]
      readPosition := 0
      miso := (if s.heldResponse = none then 0x00 else 0x5A) :: List.replicate (n - 1) 0xFF } := by
  rw [requestPeriod_listening hl, firstOut_eq]
  rfl

theorem exec_badFrame {p : Period} (h : examine p = .badFrame) :
    exec (.badFrame p) s = .next (requestPeriod p.bytes.length (refuse .badFrame) s) :=
  congrArg Host.Outcome.next (if_pos h)

theorem exec_badCommand {code : Byte} {ps : List Byte} (h : (Instr.badCommand code ps).wf = true) :
    exec (.badCommand code ps) s = .next (requestPeriod (3 + ps.length) (refuse .badCommand) s) :=
  congrArg Host.Outcome.next (if_pos h)

end Sys2Proof.Machine

namespace Sys2Proof.Proofs
open Sys2Proof Sys2Proof.Machine

/-- Settles O36: the codings are those of the model's lists, and each period is answered by its case. -/
theorem selectPeriodsAreAnswered : Obligations.SelectPeriodsAreAnswered := by
  refine ⟨?_, by decide, ⟨rfl, rfl, rfl, fun _ => rfl, fun _ => rfl⟩, fun _ => rfl, fun _ _ _ => rfl,
    fun k n => ⟨Laws.FrameCoding.length_leBytes k n, getD_leBytes k n⟩, ?_⟩
  · rintro st data inside rfl
    rfl
  · rintro s hl u rfl
    refine ⟨fun edges h => ?_, fun n rest edges h hn => ?_, fun p h => ?_, fun code ps hcode hlen hnone => ?_⟩
    · rw [exec_readPeriod hl, if_pos h]
    · rw [exec_readPeriod hl, if_neg (by omega), ← hn]
      have hpos : 0 < n := by omega
      refine ⟨?_, ?_, ?_⟩
      · rintro hheld rfl
        rw [endRead_of_none hheld]
      · rintro f hheld hf rfl
        rw [endRead_of_whole hheld hf]
      · rintro f hheld hf rfl
        rw [endRead_of_part hheld hpos hf]
    · rw [exec_badFrame h, requestPeriod_refuse hl]
      rfl
    · have hwf : (Instr.badCommand code ps).wf = true := by
        simp only [Instr.wf, hcode, hlen, hnone, ne_eq, not_false_eq_true, decide_true, Option.isNone_none,
          Bool.and_self]
      rw [exec_badCommand hwf, requestPeriod_refuse hl, show 3 + ps.length - 1 = 2 + ps.length by omega]
      rfl

end Sys2Proof.Proofs
end

section
/-! PROOF. The commands of the job engine (R145 to R147, R150). -/

namespace Sys2Proof.Machine

variable {s : State} {j : JobNo} {p : JobParams} {c : JobConfig}

/-! ### READ_JOB and TRIGGER_JOB (R147, R150) -/

theorem readJobReply_of_bad {slot clear : Byte} (h : 5 < slot.toNat ∨ 1 < clear.toNat) :
    readJobReply slot clear s = ⟨.badParameter, [], s⟩ := by
  unfold readJobReply
  rcases h with h | h
  · rw [jobOfByte_eq_none.mpr h]
    rfl
  · rw [boolCoding.none.mpr h]
    cases jobOfByte slot <;> rfl

theorem readJobReply_of_good {slot : Byte} (c : Bool) (h : slot.toNat = j.val) :
    readJobReply slot (boolByte c) s =
      ⟨.ok, jobData s j, if c then putJob j { s.jobs[j] with overflow := false } s else s⟩ := by
  unfold readJobReply
  rw [jobOfByte_eq_some.mpr h, boolCoding.read]

theorem triggerJobReply_of_slot {slot : Byte} (h : slot.toNat = j.val) :
    triggerJobReply slot s = ⟨.ok, [], select (triggerSlot j s)⟩ := by
  unfold triggerJobReply
  rw [jobOfByte_eq_some.mpr h]
  rfl

theorem triggerJobReply_of_all {slot : Byte} (h : slot.toNat = 255) :
    triggerJobReply slot s = ⟨.ok, [], select (deliver .command s)⟩ := by
  unfold triggerJobReply
  rw [jobOfByte_eq_none.mpr (by omega)]
  exact if_pos (byte_eq_of_toNat (by decide) h)

theorem triggerJobReply_of_gt {slot : Byte} (h : 5 < slot.toNat) (hall : slot.toNat ≠ 255) :
    triggerJobReply slot s = ⟨.badParameter, [], s⟩ := by
  unfold triggerJobReply
  rw [jobOfByte_eq_none.mpr h]
  exact if_neg fun h255 => hall (congrArg BitVec.toNat h255)

/-! ### The parameter checks of WRITE_JOB (R145) -/

/-- The configuration WRITE_JOB stores, what its kind does not use stored as zero (R145). -/
def jobConfigOf (p : JobParams) (enable : Bool) (kind : JobKind) (trigger : Trigger) (bound : Bool) :
    JobConfig where
  enable      := enable
  kind        := kind
  source      := if usesSource kind then p.source else 0
  target      := if usesTarget kind then p.target else 0
  length      := p.length.toNat
  pattern     := if kind = .fill then p.pattern else 0
  trigger     := trigger
  windowBound := bound

/-- The checks of the boundary, the length and the bases (R145). -/
def rangesAllowed (p : JobParams) (kind : JobKind) : Bool :=
  p.boundary.toNat ≤ 6 && decide (p.length.toNat ≠ 0)
    && baseAllowed (usesSource kind) p.source p.length.toNat
    && baseAllowed (usesTarget kind) p.target p.length.toNat && sweepAllowed kind p.target p.length.toNat

/-- The five coded fields read from the parameters (R145). -/
structure JobRead (p : JobParams) (j : JobNo) (enable : Bool) (kind : JobKind) (trigger : Trigger)
    (bound : Bool) : Prop where
  slot : jobOfByte p.slot = some j
  enable : yesNo p.enable = some enable
  kind : jobKindOf p.kind = some kind
  trigger : triggerOf p.trigger p.triggerOf = some trigger
  bound : yesNo p.windowBound = some bound

theorem jobEdit_of_read {enable bound : Bool} {kind : JobKind} {trigger : Trigger}
    (h : JobRead p j enable kind trigger bound) : jobEdit p =
      if rangesAllowed p kind = true then some (j, jobConfigOf p enable kind trigger bound) else none := by
  obtain ⟨hslot, henable, hkind, htrigger, hbound⟩ := h
  unfold jobEdit
  rw [hslot, henable, hkind, htrigger, hbound]
  rfl

theorem read_of_jobEdit (h : jobEdit p ≠ none) : ∃ j enable kind trigger bound,
    JobRead p j enable kind trigger bound := by
  unfold jobEdit at h
  split at h
  case h_1 hslot henable hkind htrigger hbound => exact ⟨_, _, _, _, _, hslot, henable, hkind, htrigger, hbound⟩
  case h_2 => exact absurd rfl h

/-- A base of WRITE_JOB that is off its words or whose range ends too late (R145). -/
def BaseBad (a : Addr) (n : Nat) : Prop := a.toNat % 8 ≠ 0 ∨ 2 ^ 32 < a.toNat + 8 * n

/-- The boundary, length and bases that WRITE_JOB refuses (R145). -/
def RangeBad (p : JobParams) : Prop :=
  6 < p.boundary.toNat ∨ p.length.toNat = 0 ∨
    ((p.kind.toNat = 1 ∨ p.kind.toNat = 3) ∧ BaseBad p.source p.length.toNat) ∨
    (p.kind.toNat < 3 ∧ BaseBad p.target p.length.toNat) ∨
    (p.kind.toNat = 2 ∧ (p.target.toNat % 64 ≠ 0 ∨ p.length.toNat % 24 ≠ 0))

theorem baseAllowed_iff (used : Bool) (a : Addr) (n : Nat) :
    baseAllowed used a n = true ↔ ¬ (used = true ∧ BaseBad a n) := by
  unfold BaseBad
  cases used <;> simp [baseAllowed]

theorem rangesAllowed_iff {kind : JobKind} (hk : p.kind = jobKindByte kind) :
    rangesAllowed p kind = true ↔ ¬ RangeBad p := by
  unfold rangesAllowed RangeBad
  simp only [Bool.and_eq_true, decide_eq_true_eq, baseAllowed_iff, sweepAllowed, Bool.or_eq_true, hk]
  cases kind <;> simp [jobKindByte, usesSource, usesTarget] <;> tauto

/-- The parameters that WRITE_JOB refuses (R145). -/
def JobBad (p : JobParams) : Prop :=
  5 < p.slot.toNat ∨ 1 < p.enable.toNat ∨ 1 < p.windowBound.toNat ∨ 3 < p.kind.toNat ∨
    triggerBad p.trigger p.triggerOf ∨ RangeBad p

theorem jobEdit_of_bad (h : JobBad p) : jobEdit p = none := by
  by_contra hne
  obtain ⟨j, enable, kind, trigger, bound, hread⟩ := read_of_jobEdit hne
  rcases h with h | h | h | h | h | h
  · exact absurd hread.slot (by rw [jobOfByte_eq_none.mpr h]; simp)
  · exact absurd hread.enable (by rw [boolCoding.none.mpr h]; simp)
  · exact absurd hread.bound (by rw [boolCoding.none.mpr h]; simp)
  · exact absurd hread.kind (by rw [jobKindCoding.none.mpr h]; simp)
  · exact absurd hread.trigger (by rw [triggerOf_of_bad h]; simp)
  · rw [jobEdit_of_read hread,
      if_neg fun hgood => (rangesAllowed_iff (jobKindCoding.byte hread.kind)).mp hgood h] at hne
    exact hne rfl

theorem jobEdit_of_good (h : ¬ JobBad p) : ∃ j enable kind trigger bound,
    JobRead p j enable kind trigger bound ∧ triggerBytes trigger = [p.trigger, p.triggerOf] ∧
      jobEdit p = some (j, jobConfigOf p enable kind trigger bound) := by
  unfold JobBad at h
  simp only [not_or] at h
  obtain ⟨hslot, henable, hbound, hkind, htrigger, hrange⟩ := h
  obtain ⟨j, hj⟩ := Option.ne_none_iff_exists'.mp (mt jobOfByte_eq_none.mp hslot)
  obtain ⟨enable, he⟩ := Option.ne_none_iff_exists'.mp (mt boolCoding.none.mp henable)
  obtain ⟨bound, hb⟩ := Option.ne_none_iff_exists'.mp (mt boolCoding.none.mp hbound)
  obtain ⟨kind, hk⟩ := Option.ne_none_iff_exists'.mp (mt jobKindCoding.none.mp hkind)
  obtain ⟨trigger, ht, hbytes⟩ := triggerOf_of_not_bad htrigger
  have hread : JobRead p j enable kind trigger bound := ⟨hj, he, hk, ht, hb⟩
  exact ⟨j, enable, kind, trigger, bound, hread, hbytes, (jobEdit_of_read hread).trans
    (if_pos ((rangesAllowed_iff (jobKindCoding.byte hk)).mpr hrange))⟩

/-! ### The enable (R146) -/

theorem jobBusy_iff (v : JobSlot) (c : JobConfig) : jobBusy v c = true ↔
    holdsRun v.state = true ∧ { c with enable := v.config.enable } ≠ v.config := by
  simp [jobBusy]

/-- The state in which the enable acts: the fields and B are stored (R145). -/
def storedJob (p : JobParams) (j : JobNo) (x : JobSlot) (s : State) : State :=
  { s with boundary := p.boundary.toNat, jobs := s.jobs.set j x }

theorem storedJob_job (p : JobParams) (j : JobNo) (x : JobSlot) (s : State) :
    (storedJob p j x s).jobs[j] = x := by
  simp [storedJob]

theorem putJob_storedJob (p : JobParams) (j : JobNo) (x y : JobSlot) (s : State) :
    putJob j y (storedJob p j x s) = storedJob p j y s := by
  simp [putJob, storedJob]

theorem writeJobReply_of_bad (h : JobBad p) : writeJobReply p s = ⟨.badParameter, [], s⟩ := by
  rw [writeJobReply, jobEdit_of_bad h]
  rfl

theorem writeJobReply_of_busy (h : jobEdit p = some (j, c)) (hb : jobBusy s.jobs[j] c = true) :
    writeJobReply p s = ⟨.busy, [], s⟩ := by
  rw [writeJobReply, h]
  exact if_pos hb

theorem writeJobReply_of_free (h : jobEdit p = some (j, c)) (hb : ¬ jobBusy s.jobs[j] c = true) :
    writeJobReply p s = ⟨.ok, [], actOnEnable j (storedJob p j { s.jobs[j] with config := c } s)⟩ := by
  rw [writeJobReply, h]
  exact if_neg hb

section
variable {x : JobSlot} (hx : s.jobs[j] = x)
include hx

theorem actOnEnable_of_kept (h : x.config.enable = true ∧ x.state ≠ .disabled ∨
    x.config.enable = false ∧ x.state = .disabled) : actOnEnable j s = s := by
  unfold actOnEnable
  dsimp only
  rw [hx]
  rcases h with ⟨he, hs⟩ | ⟨he, hs⟩
  · rw [he]
    cases hst : x.state with
    | disabled => exact absurd hst hs
    | idle | pending | running | suspended => rfl
  · rw [he, hs]

theorem actOnEnable_of_enabled (he : x.config.enable = true) (hs : x.state = .disabled) :
    actOnEnable j s = putJob j { x with state := .idle } s := by
  unfold actOnEnable
  dsimp only
  rw [hx, he, hs]

theorem actOnEnable_of_disabled (he : x.config.enable = false) (hs : x.state = .idle ∨ x.state = .pending) :
    actOnEnable j s = putJob j { x with state := .disabled } s := by
  unfold actOnEnable
  dsimp only
  rcases hs with hs | hs <;> rw [hx, he, hs]

theorem actOnEnable_of_suspended (he : x.config.enable = false) (hs : x.state = .suspended) :
    actOnEnable j s = setCause .jobAborted
      (putJob j { x with state := .disabled, result := resultOf x .aborted none } s) := by
  unfold actOnEnable
  dsimp only
  rw [hx, he, hs]

theorem actOnEnable_of_running (he : x.config.enable = false) (hs : x.state = .running) :
    actOnEnable j s = disableRunning j s := by
  unfold actOnEnable
  dsimp only
  rw [hx, he, hs]

end

theorem resultOf_aborted (v : JobSlot) : resultOf v .aborted none =
    ⟨.aborted, v.cursor, if v.config.kind = .sweep then v.swept else 0, 0, none⟩ := by
  rw [resultOf_eq]
  simp

theorem disableRunning_of_withdrawn {r : JobRun} {x : JobSlot} (hx : s.jobs[j] = x) (hr : s.run = some r)
    (hw : withdrawable r = true) (he : x.config.enable = false) : disableRunning j s =
      select (setCause .jobAborted
        { putJob j { x with state := .disabled, result := resultOf x .aborted none } s with run := none }) := by
  subst hx
  unfold disableRunning
  rw [hr]
  refine (if_pos hw).trans ?_
  rw [abortRun, endRun, he]
  rfl

theorem disableRunning_of_kept (h : ∀ r, s.run = some r → withdrawable r = false) : disableRunning j s = s := by
  unfold disableRunning
  cases hr : s.run with
  | none => rfl
  | some r => exact if_neg (by rw [h r hr]; decide)

end Sys2Proof.Machine

namespace Sys2Proof.Proofs
open Sys2Proof Sys2Proof.Machine

/-- Settles O48: what READ_JOB returns, and the triggers TRIGGER_JOB delivers. -/
theorem readJobAndTriggerJob : Obligations.ReadJobAndTriggerJob := by
  rintro s hl u rfl
  refine ⟨fun slot clear => ⟨fun h => ?_, ?_⟩, engineFree_iff _, fun slot => ⟨fun j h => ?_, fun h => ?_,
    fun h hall => ?_⟩⟩
  · exact answers_of hl (readJobReply slot clear) rfl rfl (readJobReply_of_bad h)
  · rintro j h v c r data rfl rfl rfl hdata
    have hbytes : data = jobData (settled s) j := by
      rw [hdata]
      simp only [jobData, configData, progressData, resultData]
      cases (settled s).jobs[j].result.fault <;> simp only [List.append_assoc] <;> rfl
    rw [hbytes]
    refine ⟨?_, ?_⟩
    · rintro rfl
      exact answers_of hl (readJobReply slot _) rfl rfl (readJobReply_of_good false h)
    · rintro rfl
      exact answers_of hl (readJobReply slot _) rfl rfl (readJobReply_of_good true h)
  · exact answers_of hl (triggerJobReply slot) rfl rfl (triggerJobReply_of_slot h)
  · exact answers_of hl (triggerJobReply slot) rfl rfl (triggerJobReply_of_all h)
  · exact answers_of hl (triggerJobReply slot) rfl rfl (triggerJobReply_of_gt h hall)

end Sys2Proof.Proofs
end

section
/-! PROOF. WRITE_JOB: the parameter checks, BUSY, and the enable by the slot's state (R145, R146). -/

namespace Sys2Proof.Machine

variable {s : State} {j : JobNo} {p : JobParams} {c : JobConfig}

/-- The refused parameters, in the order of the obligation's list. -/
theorem jobBad_iff (p : JobParams) : JobBad p ↔
    5 < p.slot.toNat ∨ 6 < p.boundary.toNat ∨ 1 < p.enable.toNat ∨ 1 < p.windowBound.toNat ∨
      3 < p.kind.toNat ∨ 4 < p.trigger.toNat ∨ (p.trigger.toNat < 3 ∧ p.triggerOf ≠ 0) ∨
      (p.trigger.toNat = 3 ∧ 23 < p.triggerOf.toNat) ∨ (p.trigger.toNat = 4 ∧ 5 < p.triggerOf.toNat) ∨
      p.length.toNat = 0 ∨
      ((p.kind.toNat = 1 ∨ p.kind.toNat = 3) ∧ BaseBad p.source p.length.toNat) ∨
      (p.kind.toNat < 3 ∧ BaseBad p.target p.length.toNat) ∨
      (p.kind.toNat = 2 ∧ (p.target.toNat % 64 ≠ 0 ∨ p.length.toNat % 24 ≠ 0)) := by
  unfold JobBad triggerBad RangeBad
  exact Iff.of_eq (by ac_rfl)

theorem eq_true_iff_boolByte (b : Bool) : b = true ↔ boolByte b = 1 := by
  cases b <;> decide

end Sys2Proof.Machine

namespace Sys2Proof.Proofs
open Sys2Proof Sys2Proof.Machine

/-- Settles O47: the parameters are refused or read, and the enable acts by the state of the slot stored. -/
theorem writeJobStoresAndEnables : Obligations.WriteJobStoresAndEnables := by
  rintro p s hl u rfl n rfl baseBad rfl bad hbad
  have hiff : bad ↔ JobBad p := by
    rw [hbad, jobBad_iff]
    rfl
  have hanswer : ∀ {st t}, writeJobReply p (settled s) = ⟨st, [], t⟩ →
      answers (.writeJob p) s st [] t :=
    answers_of hl (writeJobReply p) rfl (by rw [(Laws.FrameCoding.writeJob p).1])
  rw [hiff]
  refine ⟨fun h => hanswer (writeJobReply_of_bad h), fun h => ?_⟩
  obtain ⟨j, enable, kind, trigger, bound, hread, hbytes, hedit⟩ := jobEdit_of_good h
  refine ⟨j, jobConfigOf p enable kind trigger bound, (jobOfByte_eq_some.mp hread.slot).symm, ?_,
    (jobKindCoding.byte hread.kind).symm, by cases kind <;> rfl, by cases kind <;> rfl, rfl, rfl, hbytes,
    ?_, ?_⟩
  · rw [boolCoding.byte hread.enable]
    exact eq_true_iff_boolByte enable
  · rw [boolCoding.byte hread.bound]
    exact eq_true_iff_boolByte bound
  · generalize jobConfigOf p enable kind trigger bound = c at hedit ⊢
    rintro v busy rfl hbusy put rfl x hx
    have hb : busy ↔ jobBusy (settled s).jobs[j] c = true := by rw [hbusy, jobBusy_iff]
    have hstored : storedJob p j { (settled s).jobs[j] with config := c } (settled s) =
        storedJob p j x (settled s) := by rw [hx]
    have hxc : x.config = c := by rw [hx]
    have hxs : x.state = (settled s).jobs[j].state := by rw [hx]
    have hjob := storedJob_job p j x (settled s)
    have hfree : ¬ busy → ∀ {t}, actOnEnable j (storedJob p j x (settled s)) = t →
        answers (.writeJob p) s .ok [] t := fun hnb t ht =>
      hanswer ((writeJobReply_of_free hedit (mt hb.mpr hnb)).trans (by rw [hstored, ht]))
    rw [← hxs]
    refine ⟨fun hbu => hanswer (writeJobReply_of_busy hedit (hb.mp hbu)), fun hnb hs => ?_,
      fun hnb he hs => ?_, fun hnb he hs => ?_, ?_⟩
    · exact hfree hnb (actOnEnable_of_kept hjob (by rwa [hxc]))
    · refine hfree hnb ((actOnEnable_of_enabled hjob (by rwa [hxc]) hs).trans ?_)
      rw [putJob_storedJob]
      rfl
    · refine hfree hnb ((actOnEnable_of_disabled hjob (by rwa [hxc]) hs).trans ?_)
      rw [putJob_storedJob]
      rfl
    · intro ended hended
      have hresult : ended = { x with state := .disabled, result := resultOf x .aborted none } := by
        rw [hended, resultOf_aborted, hxc, hx]
      refine ⟨fun hnb he hs => ?_, fun hnb he hs => ⟨fun r hr ht hphase => ?_, fun hkept => ?_⟩⟩
      · refine hfree hnb ((actOnEnable_of_suspended hjob (by rwa [hxc]) hs).trans ?_)
        rw [putJob_storedJob, ← hresult]
        rfl
      · refine hfree hnb ((actOnEnable_of_running hjob (by rwa [hxc]) hs).trans ?_)
        rw [disableRunning_of_withdrawn hjob hr ((withdrawable_iff r).mpr ⟨ht, hphase⟩) (by rwa [hxc]),
          putJob_storedJob, ← hresult]
        rfl
      · refine hfree hnb ((actOnEnable_of_running hjob (by rwa [hxc]) hs).trans ?_)
        refine disableRunning_of_kept fun r hr => Bool.eq_false_iff.mpr fun hw => ?_
        obtain ⟨ht, hphase⟩ := (withdrawable_iff r).mp hw
        exact (hkept r hr).elim (fun h => by rw [ht] at h; cases h) hphase

end Sys2Proof.Proofs
end

section
/-! PROOF. The commands of the event unit (R168 to R172, R177). -/

namespace Sys2Proof.Machine

variable {s : State} {g : Group} {set b : Byte} {l : List Cause}

/-! ### Sets of causes and of groups as bytes (R177) -/

/-- The number whose bits are those of a list, bit 0 first. -/
def bitsNat : List Bool → Nat
  | [] => 0
  | b :: bs => Nat.bit b (bitsNat bs)

theorem testBit_bitsNat (bs : List Bool) (k : Nat) : (bitsNat bs).testBit k = bs[k]?.getD false := by
  induction bs generalizing k with
  | nil => simp [bitsNat]
  | cons b bs ih =>
    cases k with
    | zero => simp [bitsNat]
    | succ k => rw [bitsNat, Nat.testBit_bit_succ, ih, List.getElem?_cons_succ]

theorem bitsNat_lt (bs : List Bool) : bitsNat bs < 2 ^ bs.length := by
  induction bs with
  | nil => simp [bitsNat]
  | cons b bs ih =>
    rw [bitsNat, Nat.bit_val, List.length_cons, pow_succ]
    cases b <;> simp <;> omega

theorem sum_places (has : Cause → Bool) (l : List Cause) (n : Nat) :
    ((l.zipIdx n).map fun p => if has p.1 then 2 ^ p.2 else 0).sum = 2 ^ n * bitsNat (l.map has) := by
  induction l generalizing n with
  | nil => simp [bitsNat]
  | cons c l ih =>
    rw [List.zipIdx_cons, List.map_cons, List.sum_cons, ih, List.map_cons, bitsNat, Nat.bit_val, pow_succ]
    cases has c <;> simp <;> ring

theorem getLsbD_natByte {n k : Nat} (hk : k < 8) : (natByte n).getLsbD k = n.testBit k := by
  rw [natByte, BitVec.getLsbD_ofNat, decide_eq_true hk, Bool.true_and]

theorem getLsbD_groupByte (has : Cause → Bool) (g : Group) {k : Nat} (hk : k < 8) :
    (groupByte has g).getLsbD k = (((groupCauses g)[k]?).map has).getD false := by
  rw [groupByte, getLsbD_natByte hk, sum_places, pow_zero, Nat.one_mul, testBit_bitsNat, List.getElem?_map]

theorem causeBytes_getD (has : Cause → Bool) (h : groupOf b = some g) :
    (causeBytes has).getD b.toNat 0 = groupByte has g := by
  rw [groupCoding.byte h]
  cases g <;> rfl

theorem raisedByte_eq (s : State) : raisedByte s =
    natByte (bitsNat [raisedOf s .path, raisedOf s .keys, raisedOf s .jobs, raisedOf s .timebase]) := by
  unfold raisedByte
  cases raisedOf s .path <;> cases raisedOf s .keys <;> cases raisedOf s .jobs <;>
    cases raisedOf s .timebase <;> rfl

theorem raisedByte_lt (s : State) : (raisedByte s).toNat < 16 := by
  have hlt := bitsNat_lt [raisedOf s .path, raisedOf s .keys, raisedOf s .jobs, raisedOf s .timebase]
  have h16 : bitsNat [raisedOf s .path, raisedOf s .keys, raisedOf s .jobs, raisedOf s .timebase] < 16 := hlt
  rw [raisedByte_eq, natByte_toNat (by omega)]
  exact h16

theorem getLsbD_raisedByte (s : State) (h : groupOf b = some g) :
    (raisedByte s).getLsbD b.toNat = raisedOf s g := by
  rw [raisedByte_eq, groupCoding.byte h]
  cases g
  all_goals
    rw [getLsbD_natByte (by decide), testBit_bitsNat]
    rfl

/-- A byte names a cause by the bit at the cause's place in its group (R177). -/
def Named (c : Cause) (set : Byte) : Prop :=
  ∃ k, (groupCauses (causeGroup c))[k]? = some c ∧ set.getLsbD k = true

theorem namedCauses_of_ge (h : 2 ^ (groupCauses g).length ≤ set.toNat) : namedCauses g set = none :=
  if_neg (Nat.not_lt.mpr h)

theorem namedCauses_of_lt (h : set.toNat < 2 ^ (groupCauses g).length) :
    ∃ l, namedCauses g set = some l ∧ ∀ c, c ∈ l ↔ causeGroup c = g ∧ Named c set := by
  refine ⟨_, if_pos h, fun c => ?_⟩
  simp only [List.mem_map, List.mem_filter, Prod.exists, List.mem_zipIdx_iff_getElem?]
  unfold Named
  constructor
  · rintro ⟨c, k, ⟨hk, hset⟩, rfl⟩
    have hg : causeGroup c = g := (mem_groupCauses c g).mp (List.mem_of_getElem? hk)
    exact ⟨hg, k, hg ▸ hk, hset⟩
  · rintro ⟨rfl, k, hk, hset⟩
    exact ⟨c, k, ⟨hk, hset⟩, rfl⟩

/-! ### Clearing flags (R168) -/

theorem flagOf_clearCause_eq (c d : Cause) (s : State) :
    flagOf (clearCause c s) d = (flagOf s d && !decide (d = c)) := by
  by_cases h : d = c
  · subst h; simp [flagOf, clearCause]
  · simp [flagOf, clearCause, h, Vector.getElem_set_ne, causeIndex_ne h]

theorem foldl_clearCause (l : List Cause) (s : State) :
    l.foldl (fun s c => clearCause c s) s =
      { s with flags := (l.foldl (fun s c => clearCause c s) s).flags } ∧
    ∀ d, flagOf (l.foldl (fun s c => clearCause c s) s) d = (flagOf s d && !decide (d ∈ l)) := by
  induction l generalizing s with
  | nil => exact ⟨rfl, fun d => by simp⟩
  | cons c l ih =>
    obtain ⟨honly, hflags⟩ := ih (clearCause c s)
    refine ⟨honly, fun d => ?_⟩
    rw [List.foldl_cons, hflags, flagOf_clearCause_eq]
    by_cases hc : d = c <;> by_cases hl : d ∈ l <;> simp [hc, hl]

theorem clearEventsReply_of_bad {path keys jobs timebase : Byte}
    (h : 32 ≤ path.toNat ∨ 16 ≤ keys.toNat ∨ 16 ≤ jobs.toNat ∨ 8 ≤ timebase.toNat) :
    clearEventsReply path keys jobs timebase s = ⟨.badParameter, [], s⟩ := by
  unfold clearEventsReply
  split
  case h_2 => rfl
  case h_1 hpath hkeys hjobs htimebase =>
    rcases h with h | h | h | h
    · rw [namedCauses_of_ge (g := .path) h] at hpath; cases hpath
    · rw [namedCauses_of_ge (g := .keys) h] at hkeys; cases hkeys
    · rw [namedCauses_of_ge (g := .jobs) h] at hjobs; cases hjobs
    · rw [namedCauses_of_ge (g := .timebase) h] at htimebase; cases htimebase

/-- The byte of a group among the four that CLEAR_EVENTS carries (R168). -/
def groupSet (path keys jobs timebase : Byte) : Group → Byte
  | .path => path
  | .keys => keys
  | .jobs => jobs
  | .timebase => timebase

theorem clearEventsReply_of_good {path keys jobs timebase : Byte} (hp : path.toNat < 32)
    (hk : keys.toNat < 16) (hj : jobs.toNat < 16) (ht : timebase.toNat < 8) :
    ∃ l : List Cause, clearEventsReply path keys jobs timebase s =
        ⟨.ok, [], l.foldl (fun s c => clearCause c s) s⟩ ∧
      ∀ c, c ∈ l ↔ Named c (groupSet path keys jobs timebase (causeGroup c)) := by
  obtain ⟨a, ha, hmemA⟩ := namedCauses_of_lt (g := .path) hp
  obtain ⟨b, hb, hmemB⟩ := namedCauses_of_lt (g := .keys) hk
  obtain ⟨c, hc, hmemC⟩ := namedCauses_of_lt (g := .jobs) hj
  obtain ⟨d, hd, hmemD⟩ := namedCauses_of_lt (g := .timebase) ht
  refine ⟨a ++ b ++ c ++ d, ?_, fun x => ?_⟩
  · rw [clearEventsReply, ha, hb, hc, hd]
    rfl
  · simp only [List.mem_append, hmemA, hmemB, hmemC, hmemD]
    cases causeGroup x <;> simp [groupSet]

/-! ### Enables (R169) and acknowledgements (R171) -/

/-- The enables of a list of causes become those of the set (R169). -/
def enablesFrom (set l : List Cause) (s : State) : State :=
  l.foldl (fun s c => { s with enables := s.enables.set (causeIndex c) (set.contains c) }) s

theorem enableOf_enablesFrom_of_mem (set : List Cause) {d : Cause} (hd : d ∈ l) :
    enableOf (enablesFrom set l s) d = set.contains d := by
  unfold enablesFrom
  induction l generalizing s with
  | nil => cases hd
  | cons c l ih =>
    by_cases hl : d ∈ l
    · exact ih hl
    · obtain rfl : d = c := (List.mem_cons.mp hd).resolve_right hl
      rw [List.foldl_cons, enables_foldl_of_not_mem set l _ hl]
      simp [enableOf]

theorem enableOf_raiseIfDue (g : Group) (c : Cause) (s : State) :
    enableOf (raiseIfDue g s) c = enableOf s c := by
  simp [enableOf]

/-- What WRITE_EVENT_ENABLES leaves in the enables and in the groups (R169). -/
theorem setEnables_effect (g : Group) (l : List Cause) (s : State) :
    setEnables g l s = { s with enables := (setEnables g l s).enables, raised := (setEnables g l s).raised } ∧
    (∀ c, causeGroup c ≠ g → enableOf (setEnables g l s) c = enableOf s c) ∧
    (∀ c, causeGroup c = g → (enableOf (setEnables g l s) c = true ↔ c ∈ l)) ∧
    ∀ h, raisedOf (setEnables g l s) h =
      (raisedOf s h || (decide (h = g) && groupDue (setEnables g l s) g)) := by
  have heq : setEnables g l s = raiseIfDue g (enablesFrom l (groupCauses g) s) := rfl
  obtain ⟨-, hraised⟩ := flags_foldl_enables l (groupCauses g) s
  refine ⟨?_, fun c hc => ?_, fun c hc => ?_, fun h => ?_⟩
  · obtain ⟨e, r, h⟩ := setEnables_eq g l s
    rw [h]
  · rw [heq, enableOf_raiseIfDue]
    exact enables_foldl_of_not_mem l _ s (mt (mem_groupCauses c g).mp hc)
  · rw [heq, enableOf_raiseIfDue, enableOf_enablesFrom_of_mem l ((mem_groupCauses c g).mpr hc),
      List.contains_iff_mem]
  · rw [heq, raisedOf_raiseIfDue, groupDue_raiseIfDue]
    exact congrArg (· || _) (congrArg (fun v : Vector Bool 4 => v[groupIndex h]) hraised)

theorem writeEventEnablesReply_of_gt (h : 3 < b.toNat) :
    writeEventEnablesReply b set s = ⟨.badParameter, [], s⟩ := by
  rw [writeEventEnablesReply, groupCoding.none.mpr h]
  rfl

theorem writeEventEnablesReply_of_ge (hg : groupOf b = some g) (h : 2 ^ (groupCauses g).length ≤ set.toNat) :
    writeEventEnablesReply b set s = ⟨.badParameter, [], s⟩ := by
  rw [writeEventEnablesReply, hg]
  dsimp only
  rw [namedCauses_of_ge h]
  rfl

theorem writeEventEnablesReply_of_named (hg : groupOf b = some g) (h : namedCauses g set = some l) :
    writeEventEnablesReply b set s = ⟨.ok, [], setEnables g l s⟩ := by
  rw [writeEventEnablesReply, hg]
  dsimp only
  rw [h]
  rfl

theorem ackGroupReply_of_gt (h : 3 < b.toNat) : ackGroupReply b s = ⟨.badParameter, [], s⟩ := by
  rw [ackGroupReply, groupCoding.none.mpr h]
  rfl

theorem ackGroupReply_of_group (hg : groupOf b = some g) :
    ackGroupReply b s = ⟨.ok, [], acknowledge g s⟩ := by
  rw [ackGroupReply, hg]
  rfl

theorem raisedOf_lowered (g h : Group) (s : State) :
    raisedOf { s with raised := s.raised.set (groupIndex g) false } h = (raisedOf s h && !decide (h = g)) := by
  by_cases hk : h = g
  · subst hk; simp [raisedOf]
  · simp [raisedOf, hk, Vector.getElem_set_ne, groupIndex_ne hk]

theorem raisedOf_acknowledge (g h : Group) (s : State) :
    raisedOf (acknowledge g s) h = if h = g then groupDue s g else raisedOf s h := by
  rw [acknowledge, raisedOf_raiseIfDue, raisedOf_lowered]
  by_cases hk : h = g
  · simp only [hk, decide_true, Bool.not_true, Bool.and_false, Bool.false_or, Bool.true_and, if_true]
    rfl
  · simp [hk]

theorem acknowledge_only (g : Group) (s : State) :
    acknowledge g s = { s with raised := (acknowledge g s).raised } := by
  unfold acknowledge raiseIfDue
  split <;> rfl

end Sys2Proof.Machine

namespace Sys2Proof.Proofs
open Sys2Proof Sys2Proof.Machine

/-- Settles O50: the codings of the sets, and what each command does with the causes its bytes name. -/
theorem eventCommands : Obligations.EventCommands := by
  refine ⟨⟨rfl, rfl, rfl, rfl, fun c g => (mem_groupCauses c g).symm, rfl, fun b => groupCoding.none⟩,
    fun f => ⟨rfl, fun b g k hg hk => ?_⟩,
    fun s => ⟨raisedByte_lt s, fun b g hg => getLsbD_raisedByte s hg⟩, ?_⟩
  · rw [causeBytes_getD f hg, getLsbD_groupByte f g hk]
    cases (groupCauses g)[k]? <;> rfl
  · rintro s hl u rfl named hnamed
    have hn : ∀ c set, named c set ↔ Named c set := fun c set => by rw [hnamed]; rfl
    refine ⟨answers_of hl (fun s => ⟨.ok, eventData s, s⟩) rfl rfl rfl,
      fun path keys jobs timebase => ⟨fun h => ?_, fun hp hk hj ht => ?_⟩,
      fun group set => ⟨fun h => ⟨?_, ?_⟩, fun g hg => ⟨fun h => ?_, fun h => ?_, ?_⟩⟩⟩
    · exact answers_of hl (clearEventsReply path keys jobs timebase) rfl rfl (clearEventsReply_of_bad h)
    · obtain ⟨l, hreply, hmem⟩ := clearEventsReply_of_good (s := settled s) hp hk hj ht
      obtain ⟨honly, hflags⟩ := foldl_clearCause l (settled s)
      refine ⟨_, answers_of hl (clearEventsReply path keys jobs timebase) rfl rfl hreply, honly, ?_⟩
      intro c hit hhit
      have hin : hit ↔ c ∈ l := by
        rw [hhit, hn, hmem]
        cases causeGroup c <;> rfl
      rw [hin, hflags]
      exact ⟨fun h => by simp [h], fun h => by simp [h]⟩
    · exact answers_of hl (writeEventEnablesReply group set) rfl rfl (writeEventEnablesReply_of_gt h)
    · exact answers_of hl (ackGroupReply group) rfl rfl (ackGroupReply_of_gt h)
    · exact answers_of hl (writeEventEnablesReply group set) rfl rfl (writeEventEnablesReply_of_ge hg h)
    · obtain ⟨l, hl', hmem⟩ := namedCauses_of_lt h
      obtain ⟨honly, hout, hin, hraised⟩ := setEnables_effect g l (settled s)
      refine ⟨_, answers_of hl (writeEventEnablesReply group set) rfl rfl
        (writeEventEnablesReply_of_named hg hl'), honly, hout, fun c hc => ?_, hraised⟩
      rw [hin c hc, hmem, hn]
      exact ⟨fun h => h.2, fun h => ⟨hc, h⟩⟩
    · exact ⟨_, answers_of hl (ackGroupReply group) rfl rfl (ackGroupReply_of_group hg),
        acknowledge_only g _, fun h => raisedOf_acknowledge g h _⟩

end Sys2Proof.Proofs
end

section
/-! PROOF. WRITE_APERTURE: the parameter checks, CONFLICT, BUSY and the contents stored (R28 to R33, R94). -/

namespace Sys2Proof.Machine

variable {s : State} {p : ApertureParams} {i : ApertureNo} {a : Aperture}

/-! ### The parameter checks (R28) -/

/-- The fields of a sample view that WRITE_APERTURE refuses (R28). -/
def SampleBad (p : ApertureParams) : Prop :=
  (p.width.toNat ≠ 8 ∧ p.width.toNat ≠ 10 ∧ p.width.toNat ≠ 12 ∧ p.width.toNat ≠ 16) ∨
    (p.depth.toNat ≠ 8 ∧ p.depth.toNat ≠ 10 ∧ p.depth.toNat ≠ 12) ∨ p.backing.toNat % 8 ≠ 0 ∨
    2 ^ 32 < p.backing.toNat + (p.limit.toNat - p.base.toNat) * 256 * p.depth.toNat

/-- The parameters that WRITE_APERTURE refuses (R28). -/
def ApertureBad (p : ApertureParams) : Prop :=
  11 < p.entry.toNat ∨ 1 < p.valid.toNat ∨ 2 < p.view.toNat ∨ 2 < p.violation.toNat ∨
    (p.view.toNat = 2 ∧ 1 < p.unlisted.toNat) ∨ 0xFFFFF < p.base.toNat ∨ 0x100000 < p.limit.toNat ∨
    (p.valid.toNat = 1 ∧ p.limit.toNat ≤ p.base.toNat) ∨ (p.view.toNat = 1 ∧ SampleBad p)

/-- The check of the range (R28). -/
def rangeAllowed (p : ApertureParams) (valid : Bool) : Bool :=
  p.base.toNat ≤ 0xFFFFF && decide (p.limit.toNat ≤ 0x100000)
    && (!valid || decide (p.base.toNat < p.limit.toNat))

/-- The four coded fields read from the parameters (R28). -/
structure ApertureRead (p : ApertureParams) (i : ApertureNo) (valid : Bool) (view : View)
    (violation : Violation) : Prop where
  entry : apertureOfByte p.entry = some i
  valid : yesNo p.valid = some valid
  view : viewOf p.view = some view
  violation : violationOf p.violation = some violation

variable {valid : Bool} {view : View} {violation : Violation}

theorem apertureEdit_of_read (h : ApertureRead p i valid view violation) : apertureEdit p =
    if rangeAllowed p valid = true then
      (withViewFields p (baseEntry p valid view violation)).map fun a => (i, a)
    else none := by
  obtain ⟨hentry, hvalid, hview, hviolation⟩ := h
  unfold apertureEdit
  rw [hentry, hvalid, hview, hviolation]
  rfl

theorem read_of_apertureEdit (h : apertureEdit p ≠ none) :
    ∃ i valid view violation, ApertureRead p i valid view violation := by
  unfold apertureEdit at h
  split at h
  case h_1 hentry hvalid hview hviolation => exact ⟨_, _, _, _, hentry, hvalid, hview, hviolation⟩
  case h_2 => exact absurd rfl h

theorem rangeAllowed_iff (hv : p.valid = boolByte valid) : rangeAllowed p valid = true ↔
    ¬ (0xFFFFF < p.base.toNat ∨ 0x100000 < p.limit.toNat ∨
      (p.valid.toNat = 1 ∧ p.limit.toNat ≤ p.base.toNat)) := by
  unfold rangeAllowed
  rw [hv]
  cases valid <;> simp [boolByte, and_assoc]

theorem widthAllowed_iff (w : Byte) : widthAllowed w = true ↔
    ¬ (w.toNat ≠ 8 ∧ w.toNat ≠ 10 ∧ w.toNat ≠ 12 ∧ w.toNat ≠ 16) := by
  simp only [widthAllowed, Bool.or_eq_true, beq_iff_eq, ← BitVec.toNat_inj, ← not_or, not_not, or_assoc]
  rfl

theorem depthAllowed_iff (d : Byte) : depthAllowed d = true ↔
    ¬ (d.toNat ≠ 8 ∧ d.toNat ≠ 10 ∧ d.toNat ≠ 12) := by
  simp only [depthAllowed, Bool.or_eq_true, beq_iff_eq, ← BitVec.toNat_inj, ← not_or, not_not, or_assoc]
  rfl

/-- The entry of a sample view (R28). -/
def sampleEntry (p : ApertureParams) (valid : Bool) (violation : Violation) : Aperture :=
  { baseEntry p valid .sample violation with
    backing := p.backing, width := p.width.toNat, depth := p.depth.toNat }

/-- The entry of a packet view (R28). -/
def packetEntry (p : ApertureParams) (valid : Bool) (violation : Violation) (unlisted : ClearOrNull) :
    Aperture :=
  { baseEntry p valid .packet violation with clearRead := p.clearRead, unlisted := unlisted }

theorem withViewFields_sample (h : ¬ SampleBad p) :
    withViewFields p (baseEntry p valid .sample violation) = some (sampleEntry p valid violation) := by
  unfold SampleBad at h
  simp only [not_or, ← widthAllowed_iff, ← depthAllowed_iff, not_not, Nat.not_lt] at h
  obtain ⟨hwidth, hdepth, halign, hend⟩ := h
  refine if_pos ?_
  simp only [Bool.and_eq_true, decide_eq_true_eq]
  exact ⟨⟨⟨hwidth, hdepth⟩, halign⟩, hend⟩

theorem withViewFields_sample_of_bad (h : SampleBad p) :
    withViewFields p (baseEntry p valid .sample violation) = none := by
  refine if_neg fun hgood => ?_
  simp only [Bool.and_eq_true, decide_eq_true_eq, widthAllowed_iff, depthAllowed_iff] at hgood
  obtain ⟨⟨⟨hwidth, hdepth⟩, halign⟩, hend⟩ := hgood
  rcases h with h | h | h | h
  · exact hwidth h
  · exact hdepth h
  · exact h halign
  · exact absurd hend (Nat.not_le.mpr h)

theorem withViewFields_packet {unlisted : ClearOrNull} (h : clearOrNullOf p.unlisted = some unlisted) :
    withViewFields p (baseEntry p valid .packet violation) =
      some (packetEntry p valid violation unlisted) := by
  unfold withViewFields
  simp only [baseEntry, h]
  rfl

theorem withViewFields_packet_of_bad (h : 1 < p.unlisted.toNat) :
    withViewFields p (baseEntry p valid .packet violation) = none := by
  unfold withViewFields
  simp only [baseEntry, clearOrNullCoding.none.mpr h]

theorem viewByte_eq_one (view : View) : (viewByte view).toNat = 1 ↔ view = .sample := by
  cases view <;> decide

theorem viewByte_eq_two (view : View) : (viewByte view).toNat = 2 ↔ view = .packet := by
  cases view <;> decide

theorem apertureEdit_of_bad (h : ApertureBad p) : apertureEdit p = none := by
  by_contra hne
  obtain ⟨i, valid, view, violation, hread⟩ := read_of_apertureEdit hne
  have hvalid := boolCoding.byte hread.valid
  have hview := viewCoding.byte hread.view
  rw [apertureEdit_of_read hread] at hne
  by_cases hrange : rangeAllowed p valid = true
  · have hgood := (rangeAllowed_iff hvalid).mp hrange
    rw [if_pos hrange] at hne
    rcases h with h | h | h | h | ⟨hpacket, h⟩ | h | h | h | ⟨hsample, h⟩
    · exact absurd hread.entry (by rw [apertureOfByte_eq_none.mpr h]; simp)
    · exact absurd hread.valid (by rw [boolCoding.none.mpr h]; simp)
    · exact absurd hread.view (by rw [viewCoding.none.mpr h]; simp)
    · exact absurd hread.violation (by rw [violationCoding.none.mpr h]; simp)
    · obtain rfl : view = .packet := (viewByte_eq_two view).mp (by rwa [hview] at hpacket)
      rw [withViewFields_packet_of_bad h] at hne
      exact hne rfl
    · exact hgood (.inl h)
    · exact hgood (.inr (.inl h))
    · exact hgood (.inr (.inr h))
    · obtain rfl : view = .sample := (viewByte_eq_one view).mp (by rwa [hview] at hsample)
      rw [withViewFields_sample_of_bad h] at hne
      exact hne rfl
  · rw [if_neg hrange] at hne
    exact hne rfl

/-- The contents of an entry are those of the parameters, of another view's fields zero (R28). -/
structure ApertureStored (p : ApertureParams) (i : ApertureNo) (a : Aperture) : Prop where
  entry : i.val = p.entry.toNat
  valid : a.valid = true ↔ p.valid = 1
  base : a.base = p.base.toNat
  limit : a.limit = p.limit.toNat
  view : viewByte a.view = p.view
  writeSet : a.writeSet = p.writeSet
  readSet : a.readSet = p.readSet
  violation : violationByte a.violation = p.violation
  saturation : a.saturation = 0
  sample : a.view = .sample → a.backing = p.backing ∧ a.width = p.width.toNat ∧ a.depth = p.depth.toNat
  notSample : a.view ≠ .sample → a.backing = 0 ∧ a.width = 0 ∧ a.depth = 0
  packet : a.view = .packet → a.clearRead = p.clearRead ∧ clearOrNullByte a.unlisted = p.unlisted
  notPacket : a.view ≠ .packet → a.clearRead = 0 ∧ a.unlisted = .clear

/-- An entry with the coded fields read, whose own view's fields are those of the parameters. -/
theorem stored_of_read (h : ApertureRead p i valid view violation)
    (hbase : { a with backing := 0, width := 0, depth := 0, clearRead := 0, unlisted := .clear } =
      baseEntry p valid view violation)
    (hsample : a.view = .sample → a.backing = p.backing ∧ a.width = p.width.toNat ∧ a.depth = p.depth.toNat)
    (hnotSample : a.view ≠ .sample → a.backing = 0 ∧ a.width = 0 ∧ a.depth = 0)
    (hpacket : a.view = .packet → a.clearRead = p.clearRead ∧ clearOrNullByte a.unlisted = p.unlisted)
    (hnotPacket : a.view ≠ .packet → a.clearRead = 0 ∧ a.unlisted = .clear) : ApertureStored p i a := by
  obtain ⟨hentry, hvalid, hview, hviolation⟩ := h
  simp only [baseEntry, Aperture.mk.injEq] at hbase
  obtain ⟨evalid, ebase, elimit, eview, ewrite, eread, eviolation, -, -, -, esat, -, -⟩ := hbase
  refine ⟨(apertureOfByte_eq_some.mp hentry).symm, ?_, ebase, elimit, ?_, ewrite, eread, ?_, esat, hsample,
    hnotSample, hpacket, hnotPacket⟩
  · rw [evalid, boolCoding.byte hvalid]
    exact eq_true_iff_boolByte valid
  · rw [eview, viewCoding.byte hview]
  · rw [eviolation, violationCoding.byte hviolation]

/-- Parameters that WRITE_APERTURE takes are read as an entry with their values (R28). -/
theorem apertureEdit_of_good (h : ¬ ApertureBad p) :
    ∃ i a, apertureEdit p = some (i, a) ∧ ApertureStored p i a := by
  unfold ApertureBad at h
  simp only [not_or] at h
  obtain ⟨hentry, hvalid, hview, hviolation, hpacket, hbase, hlimit, hrange, hsample⟩ := h
  obtain ⟨i, hi⟩ := Option.ne_none_iff_exists'.mp (mt apertureOfByte_eq_none.mp hentry)
  obtain ⟨valid, hv⟩ := Option.ne_none_iff_exists'.mp (mt boolCoding.none.mp hvalid)
  obtain ⟨view, hw⟩ := Option.ne_none_iff_exists'.mp (mt viewCoding.none.mp hview)
  obtain ⟨violation, hx⟩ := Option.ne_none_iff_exists'.mp (mt violationCoding.none.mp hviolation)
  have hread : ApertureRead p i valid view violation := ⟨hi, hv, hw, hx⟩
  have hallowed : rangeAllowed p valid = true := (rangeAllowed_iff (boolCoding.byte hv)).mpr (by
    rintro (h | h | h)
    · exact hbase h
    · exact hlimit h
    · exact hrange h)
  have hcode := viewCoding.byte hw
  rw [apertureEdit_of_read hread, if_pos hallowed]
  cases view with
  | raw =>
    exact ⟨i, baseEntry p valid .raw violation, rfl,
      stored_of_read hread rfl nofun (fun _ => ⟨rfl, rfl, rfl⟩) nofun fun _ => ⟨rfl, rfl⟩⟩
  | sample =>
    rw [withViewFields_sample fun hbad => hsample ⟨congrArg BitVec.toNat hcode, hbad⟩]
    exact ⟨i, sampleEntry p valid violation, rfl,
      stored_of_read hread rfl (fun _ => ⟨rfl, rfl, rfl⟩) (fun h => absurd rfl h) nofun fun _ => ⟨rfl, rfl⟩⟩
  | packet =>
    obtain ⟨unlisted, hu⟩ := Option.ne_none_iff_exists'.mp fun hnone : clearOrNullOf p.unlisted = none =>
      hpacket ⟨congrArg BitVec.toNat hcode, clearOrNullCoding.none.mp hnone⟩
    rw [withViewFields_packet hu]
    exact ⟨i, packetEntry p valid violation unlisted, rfl,
      stored_of_read hread rfl nofun (fun _ => ⟨rfl, rfl, rfl⟩)
        (fun _ => ⟨rfl, (clearOrNullCoding.byte hu).symm⟩) fun h => absurd rfl h⟩

/-! ### CONFLICT and BUSY (R29, R30) -/

theorem ranges_meet (a b c d : Nat) : max a c < min b d ↔ ∃ x, a ≤ x ∧ x < b ∧ c ≤ x ∧ x < d :=
  ⟨fun h => ⟨max a c, by omega⟩, fun ⟨x, h⟩ => by omega⟩

/-- What R29 asks of a valid entry by itself, field by field. -/
theorem entryConflict_iff (a : Aperture) : entryConflict a = true ↔
    (a.view = .sample ∧ ((∃ x, a.backing.toNat ≤ x ∧
      x < a.backing.toNat + (a.limit - a.base) * 256 * a.depth ∧ a.base * 4096 ≤ x ∧ x < a.limit * 4096) ∨
      a.width < a.depth)) ∨ (a.view = .packet ∧ (a.limit - a.base) % 3 ≠ 0) := by
  rw [← ranges_meet]
  unfold entryConflict
  cases hv : a.view with
  | raw => simp
  | sample =>
    simp only [backingInside, backingEnd, apertureStart, Config.granuleBytes, Bool.or_eq_true, decide_eq_true_eq,
      true_and, reduceCtorEq, false_and, or_false]
    exact or_congr_left decide_eq_true_iff
  | packet => simp

theorem apertureConflict_iff (s : State) (i : ApertureNo) (a : Aperture) :
    apertureConflict s i a = true ↔ a.valid = true ∧
      ((∃ j : ApertureNo, j ≠ i ∧ s.apertures[j].valid = true ∧ ∃ x,
          a.base ≤ x ∧ x < a.limit ∧ s.apertures[j].base ≤ x ∧ x < s.apertures[j].limit) ∨
        (a.view = .sample ∧ ((∃ x, a.backing.toNat ≤ x ∧
          x < a.backing.toNat + (a.limit - a.base) * 256 * a.depth ∧
          a.base * 4096 ≤ x ∧ x < a.limit * 4096) ∨ a.width < a.depth)) ∨
        (a.view = .packet ∧ (a.limit - a.base) % 3 ≠ 0)) := by
  rw [← entryConflict_iff]
  simp only [apertureConflict, rangesMeet, Bool.and_eq_true, Bool.or_eq_true, List.any_eq_true,
    List.mem_finRange, true_and, decide_eq_true_eq, ranges_meet, and_assoc]
  rw [or_comm]

theorem apertureBusy_iff (s : State) (i : ApertureNo) :
    apertureBusy s i = true ↔ ∃ m ∈ s.mergeTable, m.aperture = i := by
  simp [apertureBusy]

/-! ### The contents stored (R31 to R33, R94) -/

theorem abandonWhere_apertures (reason : CloseReason) (test : TrackerEntry → Bool) (s : State) :
    (abandonWhere reason test s).apertures = s.apertures := by
  obtain ⟨_, _, _, _, _, _, h⟩ := abandonWhere_changes reason test s
  rw [h]

theorem storeAperture_eq (i : ApertureNo) (a : Aperture) (s : State) : storeAperture i a s =
    { closedAsAbandoned .reconfigured (s.tracker.filter fun e => decide (e.aperture = i)) s with
      apertures := s.apertures.set i a } := by
  unfold storeAperture
  dsimp only
  rw [abandonWhere_apertures, abandonWhere, abandonAll_eq_closedAsAbandoned]

theorem storeAperture_changes (i : ApertureNo) (a : Aperture) (s : State) :
    ByTracker { s with apertures := s.apertures.set i a } (storeAperture i a s) := by
  obtain ⟨x, v, c, o, f, r, h⟩ := abandonWhere_changes .reconfigured (fun e => decide (e.aperture = i)) s
  refine ⟨x, v, c, o, f, r, ?_⟩
  unfold storeAperture
  rw [h]

theorem storeAperture_tracker (i : ApertureNo) (a : Aperture) (hn : (s.tracker.map (·.slot)).Nodup) :
    (storeAperture i a s).tracker = s.tracker.filter fun e => decide (e.aperture ≠ i) := by
  refine (tracker_abandonWhere .reconfigured _ hn).trans ?_
  simp only [decide_not]

theorem storeAperture_capture (i : ApertureNo) (a : Aperture) (s : State) : (storeAperture i a s).capture =
    s.capture ++ ((s.tracker.filter fun e => decide (e.aperture = i)).map fun e =>
      (⟨.abandoned, e.initiator, .write, e.slot, s.time.tickCount.setWidth 16, some i,
        if e.disposition = .null then none else some e.pid,
        match e.disposition with | .scramble k _ => some k | .clear | .pass | .null => none,
        some .reconfigured, none⟩ : CaptureRecord)).take (48 - s.capture.length) := by
  refine (abandonWhere_records .reconfigured (fun e => decide (e.aperture = i)) s).capture.trans ?_
  congr 2
  refine List.map_congr_left fun e he => ?_
  obtain rfl : e.aperture = i := by simpa using (List.mem_filter.mp he).2
  rfl

theorem writeApertureReply_of_bad (h : ApertureBad p) : writeApertureReply p s = ⟨.badParameter, [], s⟩ := by
  rw [writeApertureReply, apertureEdit_of_bad h]
  rfl

theorem writeApertureReply_of_conflict (h : apertureEdit p = some (i, a)) (hc : apertureConflict s i a = true) :
    writeApertureReply p s = ⟨.conflict, [], s⟩ := by
  rw [writeApertureReply, h]
  exact if_pos hc

theorem writeApertureReply_of_busy (h : apertureEdit p = some (i, a)) (hc : ¬ apertureConflict s i a = true)
    (hb : apertureBusy s i = true) : writeApertureReply p s = ⟨.busy, [], s⟩ := by
  rw [writeApertureReply, h]
  exact (if_neg hc).trans (if_pos hb)

theorem writeApertureReply_of_good (h : apertureEdit p = some (i, a)) (hc : ¬ apertureConflict s i a = true)
    (hb : ¬ apertureBusy s i = true) : writeApertureReply p s = ⟨.ok, [], storeAperture i a s⟩ := by
  rw [writeApertureReply, h]
  exact (if_neg hc).trans (if_neg hb)

end Sys2Proof.Machine

namespace Sys2Proof.Proofs
open Sys2Proof Sys2Proof.Machine

/-- Settles O39: the parameters are refused or read as an entry; CONFLICT and BUSY are decided on it, and an
accepted one is stored after the tracker entries of its aperture have closed. -/
theorem writeApertureChecksAndStores : Obligations.WriteApertureChecksAndStores := by
  rintro p s hl u rfl bad hbad
  have hiff : bad = ApertureBad p := hbad
  have hanswer : ∀ {st t}, writeApertureReply p (settled s) = ⟨st, [], t⟩ →
      answers (.writeAperture p) s st [] t :=
    answers_of hl (writeApertureReply p) rfl (by rw [(Laws.FrameCoding.writeAperture p).1])
  rw [hiff]
  refine ⟨fun h => hanswer (writeApertureReply_of_bad h), fun h => ?_⟩
  obtain ⟨i, a, hedit, hstored⟩ := apertureEdit_of_good h
  obtain ⟨entry, valid, base, limit, view, writeSet, readSet, violation, saturation, sample, notSample, packet,
    notPacket⟩ := hstored
  refine ⟨i, a, entry, valid, base, limit, view, writeSet, readSet, violation, saturation, sample, notSample,
    packet, notPacket, ?_⟩
  rintro conflict busy rfl rfl
  rw [← apertureConflict_iff, ← apertureBusy_iff]
  exact ⟨fun hc => hanswer (writeApertureReply_of_conflict hedit hc),
    fun hc hb => hanswer (writeApertureReply_of_busy hedit hc hb),
    fun hc hb => ⟨_, hanswer (writeApertureReply_of_good hedit hc hb), storeAperture_eq i a _,
      storeAperture_changes i a _,
      fun hn => ⟨storeAperture_tracker i a hn, storeAperture_capture i a _⟩⟩⟩

end Sys2Proof.Proofs
end

section
/-! PROOF. The path reset (R15, R16, R64, R96, R125, R129, R161, R170, R178). -/

namespace Sys2Proof.Machine

variable {s t : State}

/-- A step that changes one element by `f`, taken once for each of some distinct elements. -/
theorem foldl_pointwise {n : Nat} {α : Type} (get : State → Fin n → α) (step : State → Fin n → State)
    (f : α → α) (hstep : ∀ s i k, get (step s i) k = if k = i then f (get s i) else get s k)
    (l : List (Fin n)) (hl : l.Nodup) (s : State) (k : Fin n) :
    get (l.foldl step s) k = if k ∈ l then f (get s k) else get s k := by
  induction l generalizing s with
  | nil => simp
  | cons i l ih =>
    obtain ⟨hi, hl⟩ := List.nodup_cons.mp hl
    rw [List.foldl_cons, ih hl, hstep]
    by_cases hk : k = i
    · subst hk
      simp [hi]
    · simp [hk]

/-! ### The requests (R15, R16) -/

theorem entryData_reset (e : PendingEntry) : entryData e .reset = match e.disposal, e.request.op with
    | .illFormed, _ => []
    | _, .write _ => []
    | _, .read n => List.replicate n 0 := by
  unfold entryData
  cases e.disposal <;> cases e.request.op <;> rfl

/-- The responses of some entries that an initiator is given by a reset (R15). -/
def resetResponses (k : Initiator) (l : List PendingEntry) : List Response :=
  (l.filter fun e => decide (e.source = .upstream) && decide (e.request.initiator = k)).map
    fun e => responseOf e .reset

theorem foldl_resetAnswer (l : List PendingEntry) (s : State) :
    l.foldl resetAnswer s = { s with delivered := (l.foldl resetAnswer s).delivered } ∧
    ∀ k : Initiator, (l.foldl resetAnswer s).delivered[k] = s.delivered[k] ++ resetResponses k l := by
  induction l generalizing s with
  | nil => exact ⟨rfl, fun k => by simp [resetResponses]⟩
  | cons e l ih =>
    obtain ⟨honly, hdelivered⟩ := ih (resetAnswer s e)
    cases hs : e.source with
    | job =>
      have hstep : resetAnswer s e = s := by rw [resetAnswer, hs]
      rw [List.foldl_cons, hstep]
      obtain ⟨honly, hdelivered⟩ := ih s
      refine ⟨honly, fun k => ?_⟩
      rw [hdelivered]
      simp [resetResponses, hs]
    | upstream =>
      have hstep : resetAnswer s e = deliverUpstream (responseOf e .reset) s := by rw [resetAnswer, hs]
      rw [List.foldl_cons, hstep]
      rw [hstep] at honly hdelivered
      refine ⟨honly, fun k => ?_⟩
      rw [hdelivered]
      by_cases hk : e.request.initiator = k
      · subst hk
        simp [resetResponses, hs, deliverUpstream, responseOf]
      · have hne : e.request.initiator.val ≠ k.val := fun heq => hk (Fin.ext heq)
        simp [resetResponses, hs, hk, deliverUpstream, responseOf, Vector.getElem_set_ne, hne]

/-- The state in which the tracker is emptied: the requests are answered and the path's lists empty. -/
def pathEmptied (s : State) : State :=
  { s with
    delivered := (s.pendingList.foldl resetAnswer s).delivered
    pendingList := [], waiting := [], mergeTable := []
    outstanding := s.outstanding.map fun a => { a with handler := .absorbed } }

theorem pathReset_eq (s : State) :
    pathReset s = setCause .pathResetDone (resetJobs (emptyTracker (pathEmptied s))) := by
  have hanswered := (foldl_resetAnswer s.pendingList s).1
  have hemptied : { resetAccesses (resetRequests s) with mergeTable := [] } = pathEmptied s := by
    unfold resetAccesses resetRequests pathEmptied
    rw [hanswered]
  rw [pathReset, hemptied]

/-! ### The key slots (R96, R123, R129) -/

theorem services_putService (i : ServiceNo) (v : Service) (s : State) :
    (putService i v s).services = s.services.set i v := by
  rw [putService_eq]
  split
  · rw [setCause_services]
  · rfl

theorem service_putService (i k : ServiceNo) (v : Service) (s : State) :
    (putService i v s).services[k] = if k = i then v else s.services[k] := by
  rw [services_putService]
  by_cases hk : k = i
  · subst hk
    simp
  · have hne : i.val ≠ k.val := fun heq => hk (Fin.ext heq.symm)
    simp [hk, Vector.getElem_set_ne, hne]

/-- A key slot after the retirements of its service (R123). -/
def retiredSlot (v : Service) (k : KeySlot) : KeySlot := if retireDue v k then emptied k else k

theorem service_retire (i k : ServiceNo) (p : Phase) (s : State) : (retire i p s).services[k] =
    if k = i then withKeySlot p (retiredSlot s.services[i] (keySlot s.services[i] p)) s.services[i]
    else s.services[k] := by
  unfold retiredSlot
  by_cases hdue : retireDue s.services[i] (keySlot s.services[i] p) = true
  · rw [retire_of_due hdue, service_putService, if_pos hdue]
  · rw [retire_of_not_due hdue, if_neg hdue]
    split
    case isTrue hk => subst hk; cases p <;> rfl
    case isFalse => rfl

/-- A service after the retirements that are due (R123). -/
def retiredService (v : Service) : Service :=
  { v with slotA := retiredSlot v v.slotA, slotB := retiredSlot v v.slotB }

theorem service_retireBoth (s : State) (i k : ServiceNo) : (retireBoth i s).services[k] =
    if k = i then retiredService s.services[i] else s.services[k] := by
  rw [retireBoth, service_retire]
  by_cases hk : k = i
  · subst hk
    rw [if_pos rfl, if_pos rfl, service_retire, if_pos rfl]
    rfl
  · rw [if_neg hk, if_neg hk, service_retire, if_neg hk]

theorem retireBoth_moved (i : ServiceNo) (s : State) : KeysMoved s (retireBoth i s) :=
  (retire_moved i .a s).trans (retire_moved i .b _)

theorem foldl_retireBoth_moved (l : List ServiceNo) (s : State) :
    KeysMoved s (l.foldl (fun s i => retireBoth i s) s) := by
  induction l generalizing s with
  | nil => exact KeysMoved.of_same rfl rfl rfl rfl rfl rfl rfl
  | cons i l ih => exact (retireBoth_moved i s).trans (ih _)

/-- The tracker empty and every user count 0, before the retirements (R96). -/
def usersDropped (s : State) : State :=
  { s with tracker := [], services := Vector.ofFn fun i : Fin 24 => withoutUsers s.services[i] }

theorem usersDropped_service (s : State) (i : ServiceNo) :
    (usersDropped s).services[i] = withoutUsers s.services[i] := Vector.getElem_ofFn i.isLt

theorem keyWanted_withoutUsers (v : Service) : keyWanted (withoutUsers v) = keyWanted v :=
  (keyWanted_users (withKeySlot .a { keySlot v .a with users := 0 } v) .b 0).trans (keyWanted_users v .a 0)

theorem usersDropped_moved (s : State) : KeysMoved s (usersDropped s) := by
  have hwants : ∀ i : ServiceNo, keyWanted (usersDropped s).services[i] = keyWanted s.services[i] := fun i => by
    rw [usersDropped_service, keyWanted_withoutUsers]
  refine ⟨⟨fun i => ?_, fun i hi => (hwants i).trans hi⟩, ?_, rfl, rfl, rfl⟩
  · rw [usersDropped_service]
    rfl
  · refine Reported.congr (Reported.of_same (s := s) (t := usersDropped s) rfl rfl rfl)
      fun c => ⟨False.elim, ?_⟩
    rintro ⟨-, i, hs, ht⟩
    rw [hwants, hs] at ht
    cases ht

theorem emptyTracker_moved (s : State) : KeysMoved s (emptyTracker s) :=
  (usersDropped_moved s).trans (foldl_retireBoth_moved _ _)

theorem emptyTracker_service (s : State) (i : ServiceNo) :
    (emptyTracker s).services[i] = retiredService (withoutUsers s.services[i]) := by
  have hfold := foldl_pointwise (fun s (i : ServiceNo) => s.services[i]) (fun s i => retireBoth i s)
    retiredService service_retireBoth (List.finRange 24) (List.nodup_finRange 24) (usersDropped s) i
  rw [if_pos (List.mem_finRange i)] at hfold
  exact hfold.trans (congrArg retiredService (usersDropped_service s i))

theorem foldl_retireBoth_changes (l : List ServiceNo) (s : State) :
    ByKeys s (l.foldl (fun s i => retireBoth i s) s) :=
  fold_changes _ ByKeys.refl (fun _ _ _ => ByKeys.trans) (fun _ _ => retireBoth_changes _ _) _ _

/-- Emptying the tracker leaves everything but the services, the flags and the groups. -/
theorem emptyTracker_only (s : State) : emptyTracker s = { s with
    tracker := [], services := (emptyTracker s).services, flags := (emptyTracker s).flags
    raised := (emptyTracker s).raised } := by
  have hmoved := emptyTracker_moved s
  obtain ⟨v, c, o, f, r, h⟩ := foldl_retireBoth_changes (List.finRange 24) (usersDropped s)
  have heq : emptyTracker s = _ := h
  have hcapture := hmoved.capture
  have hoverrun := hmoved.overrun
  rw [heq] at hcapture hoverrun ⊢
  obtain rfl : c = s.capture := hcapture
  obtain rfl : o = s.overrun := hoverrun
  rfl

/-- A key slot freed of its users, and emptied when it is due (R96, R123). -/
theorem retiredSlot_withoutUsers (v : Service) (k : KeySlot) :
    retiredSlot (withoutUsers v) { k with users := 0 } =
      if k.state = .retiring ∧ v.guard ≤ k.age then ⟨.empty, Vector.replicate 16 0, 0, k.age⟩
      else { k with users := 0 } := by
  unfold retiredSlot
  refine if_congr ?_ rfl rfl
  rw [retireDue_iff]
  exact ⟨fun ⟨hr, hage, _⟩ => ⟨hr, hage⟩, fun ⟨hr, hage⟩ => ⟨hr, hage, rfl⟩⟩

theorem retiredService_withoutUsers (v : Service) : retiredService (withoutUsers v) = { v with
    slotA := if v.slotA.state = .retiring ∧ v.guard ≤ v.slotA.age then
        ⟨.empty, Vector.replicate 16 0, 0, v.slotA.age⟩
      else { v.slotA with users := 0 }
    slotB := if v.slotB.state = .retiring ∧ v.guard ≤ v.slotB.age then
        ⟨.empty, Vector.replicate 16 0, 0, v.slotB.age⟩
      else { v.slotB with users := 0 } } := by
  rw [← retiredSlot_withoutUsers v v.slotA, ← retiredSlot_withoutUsers v v.slotB]
  rfl

/-! ### The jobs (R161) -/

/-- The running job's run ends ABORTED (R161). -/
def runAborted (s : State) : State :=
  match s.run with
  | none => s
  | some r => abortRun r.slot s

/-- A PENDING or SUSPENDED slot returns to IDLE (R161). -/
def calmed (v : JobSlot) : JobSlot :=
  if v.state = .pending ∨ v.state = .suspended then { v with state := .idle } else v

theorem calmed_of_rest {v : JobSlot} (h : v.state = .idle ∨ v.state = .disabled) : calmed v = v := by
  refine if_neg ?_
  rcases h with h | h <;> rw [h] <;> decide

/-- The slots of some numbers return to IDLE (R161). -/
def slotsCalmed (l : List JobNo) (s : State) : State :=
  l.foldl (fun s j => putJob j (calmed s.jobs[j]) s) s

theorem resetJobs_eq (s : State) : resetJobs s = slotsCalmed (List.finRange 6) (runAborted s) := by
  have hrun : runAborted s = match s.run with
      | none => s
      | some r => abortRun r.slot s := rfl
  have hstep : (fun (s : State) (j : JobNo) => match s.jobs[j].state with
      | .pending | .suspended => putJob j { s.jobs[j] with state := .idle } s
      | .disabled | .idle | .running => s) = fun s j => putJob j (calmed s.jobs[j]) s := by
    funext s j
    unfold calmed
    cases h : s.jobs[j].state
    case pending | suspended => rw [if_pos (by simp)]
    case disabled | idle | running => rw [if_neg (by simp), putJob_self]
  unfold resetJobs slotsCalmed
  rw [hrun, ← hstep] <;> rfl

theorem slotsCalmed_only (l : List JobNo) (s : State) :
    slotsCalmed l s = { s with jobs := (slotsCalmed l s).jobs } := by
  unfold slotsCalmed
  induction l generalizing s with
  | nil => rfl
  | cons j l ih => exact ih _

theorem slotsCalmed_job (s : State) (j : JobNo) :
    (slotsCalmed (List.finRange 6) s).jobs[j] = calmed s.jobs[j] := by
  have hfold := foldl_pointwise (fun s (j : JobNo) => s.jobs[j])
    (fun s j => putJob j (calmed s.jobs[j]) s) calmed (fun s i k => jobs_putJob i k _ s)
    (List.finRange 6) (List.nodup_finRange 6) s j
  rwa [if_pos (List.mem_finRange j)] at hfold

theorem runAborted_of_none (h : s.run = none) : runAborted s = s := by
  rw [runAborted, h]

theorem runAborted_of_some {r : JobRun} (h : s.run = some r) : runAborted s = setCause .jobAborted { s with
    run := none
    jobs := s.jobs.set r.slot { s.jobs[r.slot] with
      state  := if s.jobs[r.slot].config.enable then .idle else .disabled
      result := resultOf s.jobs[r.slot] .aborted none } } := by
  rw [runAborted, h]
  rfl

theorem setCause_changes_flags (c : Cause) (s : State) :
    ∃ f r, setCause c s = { s with flags := f, raised := r } := ⟨_, _, setCause_only c s⟩

/-- A reset of the jobs leaves everything but the run, the slots, the flags and the groups. -/
def ByJobReset (s t : State) : Prop :=
  ∃ j f r, t = { s with run := none, jobs := j, flags := f, raised := r }

theorem runAborted_changes (s : State) : ByJobReset s (runAborted s) := by
  cases h : s.run with
  | none => exact ⟨s.jobs, s.flags, s.raised, by rw [runAborted_of_none h, ← h]⟩
  | some r =>
    rw [runAborted_of_some h]
    obtain ⟨f, g, hcause⟩ := setCause_changes_flags .jobAborted { s with
      run := none
      jobs := s.jobs.set r.slot { s.jobs[r.slot] with
        state  := if s.jobs[r.slot].config.enable then .idle else .disabled
        result := resultOf s.jobs[r.slot] .aborted none } }
    rw [hcause]
    exact ⟨_, _, _, rfl⟩

theorem runAborted_reported (s : State) :
    Reported (fun c => c = .jobAborted ∧ s.run ≠ none) s (runAborted s) := by
  cases h : s.run with
  | none =>
    rw [runAborted_of_none h]
    exact (Reported.of_same rfl rfl rfl).congr fun c => by simp
  | some r =>
    rw [runAborted_of_some h]
    exact reported_of_setCause rfl rfl rfl fun c => by simp

theorem runAborted_job_of_run {r : JobRun} (h : s.run = some r) : (runAborted s).jobs[r.slot] =
    { s.jobs[r.slot] with
      state  := if s.jobs[r.slot].config.enable then .idle else .disabled
      result := resultOf s.jobs[r.slot] .aborted none } := by
  rw [runAborted_of_some h, setCause_jobs]
  simp

theorem runAborted_job_of_ne {j : JobNo} (h : ∀ r, s.run = some r → r.slot ≠ j) :
    (runAborted s).jobs[j] = s.jobs[j] := by
  cases hr : s.run with
  | none => rw [runAborted_of_none hr]
  | some r =>
    have hne : r.slot.val ≠ j.val := fun heq => h r hr (Fin.ext heq)
    rw [runAborted_of_some hr, setCause_jobs]
    simp [Vector.getElem_set_ne, hne]

theorem resetJobs_effect (s : State) : ByJobReset s (resetJobs s) := by
  obtain ⟨j, f, r, h⟩ := runAborted_changes s
  rw [resetJobs_eq, slotsCalmed_only, h]
  exact ⟨_, _, _, rfl⟩

theorem slotsCalmed_reported (l : List JobNo) (s : State) :
    Reported (fun _ => False) s (slotsCalmed l s) := by
  rw [slotsCalmed_only]
  exact Reported.of_same rfl rfl rfl

theorem resetJobs_reported (s : State) :
    Reported (fun c => c = .jobAborted ∧ s.run ≠ none) s (resetJobs s) := by
  rw [resetJobs_eq]
  exact ((runAborted_reported s).trans (slotsCalmed_reported _ _)).congr fun c => or_iff_left id

theorem resetJobs_job (s : State) (j : JobNo) : (resetJobs s).jobs[j] = calmed (runAborted s).jobs[j] := by
  rw [resetJobs_eq, slotsCalmed_job]

/-! ### The whole reset (R178) -/

/-- The state in which the jobs are reset: the path's lists and the tracker are empty. -/
def trackerEmptied (s : State) : State := emptyTracker (pathEmptied s)

theorem trackerEmptied_changes (s : State) : ∃ v f r, trackerEmptied s = { pathEmptied s with
    tracker := [], services := v, flags := f, raised := r } :=
  ⟨_, _, _, emptyTracker_only (pathEmptied s)⟩

theorem trackerEmptied_jobs (s : State) : (trackerEmptied s).jobs = s.jobs := by
  obtain ⟨v, f, r, h⟩ := trackerEmptied_changes s
  rw [h]
  rfl

theorem trackerEmptied_run (s : State) : (trackerEmptied s).run = s.run := by
  obtain ⟨v, f, r, h⟩ := trackerEmptied_changes s
  rw [h]
  rfl

theorem pathEmptied_moved (s : State) : KeysMoved s (pathEmptied s) :=
  KeysMoved.of_same rfl rfl rfl rfl rfl rfl rfl

theorem trackerEmptied_moved (s : State) : KeysMoved s (trackerEmptied s) :=
  (pathEmptied_moved s).trans (emptyTracker_moved _)

theorem pathReset_changes (s : State) : ∃ v j f r, pathReset s = { s with
    delivered := (s.pendingList.foldl resetAnswer s).delivered
    pendingList := [], waiting := [], mergeTable := []
    tracker := [], outstanding := s.outstanding.map fun a => { a with handler := .absorbed }
    services := v, jobs := j, run := none, flags := f, raised := r } := by
  obtain ⟨v, f, r, htracker⟩ := trackerEmptied_changes s
  obtain ⟨j, f', r', hjobs⟩ := resetJobs_effect (trackerEmptied s)
  obtain ⟨f'', r'', hcause⟩ := setCause_changes_flags .pathResetDone (resetJobs (trackerEmptied s))
  refine ⟨v, j, f'', r'', ?_⟩
  rw [pathReset_eq]
  refine hcause.trans ?_
  rw [hjobs, htracker]
  rfl

theorem pathReset_services (s : State) : (pathReset s).services = (trackerEmptied s).services := by
  obtain ⟨j, f, r, h⟩ := resetJobs_effect (trackerEmptied s)
  have hjobs : (resetJobs (trackerEmptied s)).services = (trackerEmptied s).services := by rw [h]
  rw [pathReset_eq, setCause_services]
  exact hjobs

theorem pathReset_service (s : State) (i : ServiceNo) :
    (pathReset s).services[i] = retiredService (withoutUsers s.services[i]) := by
  have hservices : (pathReset s).services[i] = (trackerEmptied s).services[i] := by rw [pathReset_services]
  exact hservices.trans (emptyTracker_service (pathEmptied s) i)

theorem pathReset_job (s : State) (j : JobNo) :
    (pathReset s).jobs[j] = calmed (runAborted (trackerEmptied s)).jobs[j] := by
  have hjobs : (pathReset s).jobs[j] = (resetJobs (trackerEmptied s)).jobs[j] := by
    rw [pathReset_eq, setCause_jobs]
    rfl
  rw [hjobs, resetJobs_job]

theorem pathReset_job_of_run {r : JobRun} (h : s.run = some r) : (pathReset s).jobs[r.slot] =
    { s.jobs[r.slot] with
      state  := if s.jobs[r.slot].config.enable then .idle else .disabled
      result := ⟨.aborted, s.jobs[r.slot].cursor,
        if s.jobs[r.slot].config.kind = .sweep then s.jobs[r.slot].swept else 0, 0, none⟩ } := by
  have hjob : (trackerEmptied s).jobs[r.slot] = s.jobs[r.slot] := by rw [trackerEmptied_jobs]
  have hrun : (trackerEmptied s).run = some r := (trackerEmptied_run s).trans h
  rw [pathReset_job, runAborted_job_of_run hrun, hjob, resultOf_aborted]
  refine calmed_of_rest ?_
  cases s.jobs[r.slot].config.enable
  · exact .inr rfl
  · exact .inl rfl

theorem pathReset_job_of_ne {j : JobNo} (h : ∀ r, s.run = some r → r.slot ≠ j) :
    (pathReset s).jobs[j] = calmed s.jobs[j] := by
  have hjob : (trackerEmptied s).jobs[j] = s.jobs[j] := by rw [trackerEmptied_jobs]
  rw [pathReset_job, runAborted_job_of_ne (by rwa [trackerEmptied_run]), hjob]

theorem pathReset_reported (s : State) : Reported (fun c => c = .pathResetDone ∨
    (c = .jobAborted ∧ s.run ≠ none) ∨ (c = .keyWanted ∧ ∃ i : ServiceNo,
      keyWanted s.services[i] = false ∧ keyWanted (pathReset s).services[i] = true)) s (pathReset s) := by
  have hkeys := (trackerEmptied_moved s).causes
  have hjobs := resetJobs_reported (trackerEmptied s)
  have hdone := reported_setCause .pathResetDone (resetJobs (trackerEmptied s))
  rw [trackerEmptied_run] at hjobs
  have hall := (hkeys.trans hjobs).trans hdone
  have heq : setCause .pathResetDone (resetJobs (trackerEmptied s)) = pathReset s := (pathReset_eq s).symm
  rw [heq] at hall
  refine hall.congr fun c => ?_
  unfold WantsRise
  rw [pathReset_services, or_comm, or_comm (b := c = .jobAborted ∧ s.run ≠ none)]

end Sys2Proof.Machine

namespace Sys2Proof.Proofs
open Sys2Proof Sys2Proof.Machine

/-- Settles O51: the responses, the emptied lists, the freed key slots, the jobs and every cause that
arises. -/
theorem pathResetAnswersAndEmpties : Obligations.PathResetAnswersAndEmpties := by
  rintro s hl u rfl
  obtain ⟨v, j, f, r, honly⟩ := pathReset_changes (settled s)
  refine ⟨pathReset (settled s), answers_of hl (fun s => done (pathReset s)) rfl rfl rfl, ?_, fun k => ?_,
    ?_, ?_, ?_⟩
  · rw [honly]
  · have hdelivered : (pathReset (settled s)).delivered[k] =
        ((settled s).pendingList.foldl resetAnswer (settled s)).delivered[k] := by rw [honly]
    rw [hdelivered, (foldl_resetAnswer _ _).2 k]
    unfold resetResponses responseOf
    simp only [entryData_reset] <;> rfl
  · rintro i v rfl freed rfl
    rw [pathReset_service, retiredService_withoutUsers]
  · rintro j v rfl
    refine ⟨?_, fun hno hstate => ?_, fun hno hpending hsuspended => ?_⟩
    · rintro ⟨r, hr, rfl⟩
      exact pathReset_job_of_run hr
    · rw [pathReset_job_of_ne hno]
      exact if_pos hstate
    · rw [pathReset_job_of_ne hno]
      exact if_neg (not_or.mpr ⟨hpending, hsuspended⟩)
  · rintro arises rfl
    have hcauses := pathReset_reported (settled s)
    exact ⟨hcauses.flags, hcauses.raised⟩

end Sys2Proof.Proofs
end

section
/-! PROOF. The frames of the management commands: each is read back as its command, and a period that is read
as a command is its frame (R175, R177). -/

namespace Sys2Proof

variable {code : Byte} {ps : List Byte} {p : Period} {n : Nat} {i : Instr}

/-! ### Fields, least significant byte first (R177) -/

theorem fieldBytes_field_two (a b : Byte) : fieldBytes 2 (field 16 [a, b]) = [a, b] :=
  fieldBytes_field 2 16 _ rfl rfl

/-! ### Parameters read from their bytes (R177) -/

theorem maskOf_bytes (a : Byte) (m : BitVec 16) :
    field 16 (((a :: fieldBytes 2 m).drop 1).take 2) = m := field_fieldBytes 2 _ m rfl

theorem apertureOf_apertureBytes (p : ApertureParams) : apertureOf (apertureBytes p) = p := by
  have hbase : field 24 (((apertureBytes p).drop 2).take 3) = p.base := field_fieldBytes 3 _ p.base rfl
  have hlimit : field 24 (((apertureBytes p).drop 5).take 3) = p.limit := field_fieldBytes 3 _ p.limit rfl
  have hwrite : field 16 (((apertureBytes p).drop 9).take 2) = p.writeSet := field_fieldBytes 2 _ _ rfl
  have hread : field 16 (((apertureBytes p).drop 11).take 2) = p.readSet := field_fieldBytes 2 _ _ rfl
  have hbacking : field 32 (((apertureBytes p).drop 14).take 4) = p.backing := field_fieldBytes 4 _ _ rfl
  have hclear : field 16 (((apertureBytes p).drop 20).take 2) = p.clearRead := field_fieldBytes 2 _ _ rfl
  rw [apertureOf, hbase, hlimit, hwrite, hread, hbacking, hclear]
  rfl

theorem streamOf_streamBytes (p : StreamParams) : streamOf (streamBytes p) = p := by
  have hinput : field 16 (((streamBytes p).drop 2).take 2) = p.input := field_fieldBytes 2 _ _ rfl
  have houtput : field 16 (((streamBytes p).drop 5).take 2) = p.output := field_fieldBytes 2 _ _ rfl
  rw [streamOf, hinput, houtput]
  rfl

theorem serviceOf_serviceBytes (p : ServiceParams) : serviceOf (serviceBytes p) = p := by
  have hperiod : field 16 (((serviceBytes p).drop 1).take 2) = p.period := field_fieldBytes 2 _ _ rfl
  have hguard : field 16 (((serviceBytes p).drop 3).take 2) = p.guard := field_fieldBytes 2 _ _ rfl
  rw [serviceOf, hperiod, hguard]
  rfl

theorem timebaseOf_timebaseBytes (p : TimebaseParams) : timebaseOf (timebaseBytes p) = p := by
  have hdivider : field 16 (((timebaseBytes p).drop 2).take 2) = p.divider := field_fieldBytes 2 _ _ rfl
  have hlimit : field 16 (((timebaseBytes p).drop 4).take 2) = p.limit := field_fieldBytes 2 _ _ rfl
  rw [timebaseOf, hdivider, hlimit]
  rfl

theorem jobOf_jobBytes (p : JobParams) : jobOf (jobBytes p) = p := by
  have hsource : field 32 (((jobBytes p).drop 3).take 4) = p.source := field_fieldBytes 4 _ _ rfl
  have htarget : field 32 (((jobBytes p).drop 7).take 4) = p.target := field_fieldBytes 4 _ _ rfl
  have hlength : field 24 (((jobBytes p).drop 11).take 3) = p.length := field_fieldBytes 3 _ _ rfl
  have hpattern : field 64 (((jobBytes p).drop 14).take 8) = p.pattern := field_fieldBytes 8 _ _ rfl
  rw [jobOf, hsource, htarget, hlength, hpattern]
  rfl

theorem wordOfKeyBytes_toList (word : ControlWord) : wordOfKeyBytes word.toList = word := by
  unfold wordOfKeyBytes
  ext k hk
  simp

/-- The parameter bytes of a command are read back as the command (R177). -/
theorem commandOf_params (h : i.code = some (code, n)) : commandOf code i.params = some i := by
  cases i <;> cases h
  case writeAperture p => exact congrArg (fun x => some (Instr.writeAperture x)) (apertureOf_apertureBytes p)
  case writeMask a m => exact congrArg (fun x => some (Instr.writeMask a x)) (maskOf_bytes a m)
  case writeStream p => exact congrArg (fun x => some (Instr.writeStream x)) (streamOf_streamBytes p)
  case writeService p => exact congrArg (fun x => some (Instr.writeService x)) (serviceOf_serviceBytes p)
  case loadKey a b w => exact congrArg (fun x => some (Instr.loadKey a b x)) (wordOfKeyBytes_toList w)
  case writeTimebase p => exact congrArg (fun x => some (Instr.writeTimebase x)) (timebaseOf_timebaseBytes p)
  case writeJob p => exact congrArg (fun x => some (Instr.writeJob x)) (jobOf_jobBytes p)
  all_goals rfl

/-! ### Parameter bytes of the fields read from them (R177) -/

theorem none_of_length (h : 0 = ps.length) : [] = ps := (List.eq_nil_of_length_eq_zero h.symm).symm

theorem one_of_length (h : 1 = ps.length) : [ps.getD 0 0] = ps :=
  match ps, h with
  | [_], _ => rfl

theorem two_of_length (h : 2 = ps.length) : [ps.getD 0 0, ps.getD 1 0] = ps :=
  match ps, h with
  | [_, _], _ => rfl

theorem four_of_length (h : 4 = ps.length) : [ps.getD 0 0, ps.getD 1 0, ps.getD 2 0, ps.getD 3 0] = ps :=
  match ps, h with
  | [_, _, _, _], _ => rfl

theorem mask_of_length (h : 3 = ps.length) :
    ps.getD 0 0 :: fieldBytes 2 (field 16 ((ps.drop 1).take 2)) = ps :=
  match ps, h with
  | [a, b, c], _ => congrArg (a :: ·) (fieldBytes_field_two b c)

theorem timebaseBytes_timebaseOf (h : 6 = ps.length) : timebaseBytes (timebaseOf ps) = ps := by
  match ps, h with
  | [a, b, c, d, e, f], _ =>
    have hdivider : fieldBytes 2 (timebaseOf [a, b, c, d, e, f]).divider = [c, d] := fieldBytes_field_two c d
    have hlimit : fieldBytes 2 (timebaseOf [a, b, c, d, e, f]).limit = [e, f] := fieldBytes_field_two e f
    rw [timebaseBytes, hdivider, hlimit]
    rfl

theorem serviceBytes_serviceOf (h : 7 = ps.length) : serviceBytes (serviceOf ps) = ps := by
  match ps, h with
  | [a, b, c, d, e, f, g], _ =>
    have hperiod : fieldBytes 2 (serviceOf [a, b, c, d, e, f, g]).period = [b, c] := fieldBytes_field_two b c
    have hguard : fieldBytes 2 (serviceOf [a, b, c, d, e, f, g]).guard = [d, e] := fieldBytes_field_two d e
    rw [serviceBytes, hperiod, hguard]
    rfl

/-- A list taken apart at `k`: a byte, or the bytes of a field, and what follows. -/
theorem drop_eq_getD_cons {k : Nat} (h : k < ps.length) : ps.drop k = ps.getD k 0 :: ps.drop (k + 1) := by
  rw [List.drop_eq_getElem_cons h, List.getD_eq_getElem _ _ h]

theorem drop_eq_take_append (ps : List Byte) (k m : Nat) :
    ps.drop k = (ps.drop k).take m ++ ps.drop (k + m) := by
  rw [← List.drop_drop, List.take_append_drop]

/-- The bytes of the field at `k` are those it was read from. -/
theorem fieldBytes_at {k m w : Nat} (hw : w = 8 * m) (h : k + m ≤ ps.length) :
    fieldBytes m (field w ((ps.drop k).take m)) = (ps.drop k).take m :=
  fieldBytes_field m w _ hw (by rw [List.length_take, List.length_drop]; omega)

theorem streamBytes_streamOf (h : 10 = ps.length) : streamBytes (streamOf ps) = ps := by
  have hinput : fieldBytes 2 (streamOf ps).input = (ps.drop 2).take 2 := fieldBytes_at rfl (by omega)
  have houtput : fieldBytes 2 (streamOf ps).output = (ps.drop 5).take 2 := fieldBytes_at rfl (by omega)
  have hall : ps = [ps.getD 0 0, ps.getD 1 0] ++ (ps.drop 2).take 2 ++ [ps.getD 4 0] ++ (ps.drop 5).take 2
      ++ [ps.getD 7 0, ps.getD 8 0, ps.getD 9 0] := by
    conv_lhs => rw [← List.drop_zero (l := ps), drop_eq_getD_cons (k := 0) (by omega),
      drop_eq_getD_cons (k := 1) (by omega), drop_eq_take_append ps 2 2,
      drop_eq_getD_cons (k := 4) (by omega), drop_eq_take_append ps 5 2,
      drop_eq_getD_cons (k := 7) (by omega), drop_eq_getD_cons (k := 8) (by omega),
      drop_eq_getD_cons (k := 9) (by omega), List.drop_of_length_le (by omega : ps.length ≤ 9 + 1)]
    simp only [List.append_assoc, List.cons_append, List.nil_append]
  rw [streamBytes, hinput, houtput]
  exact hall.symm

theorem apertureBytes_apertureOf (h : 23 = ps.length) : apertureBytes (apertureOf ps) = ps := by
  have hbase : fieldBytes 3 (apertureOf ps).base = (ps.drop 2).take 3 := fieldBytes_at rfl (by omega)
  have hlimit : fieldBytes 3 (apertureOf ps).limit = (ps.drop 5).take 3 := fieldBytes_at rfl (by omega)
  have hwriteSet : fieldBytes 2 (apertureOf ps).writeSet = (ps.drop 9).take 2 := fieldBytes_at rfl (by omega)
  have hreadSet : fieldBytes 2 (apertureOf ps).readSet = (ps.drop 11).take 2 := fieldBytes_at rfl (by omega)
  have hbacking : fieldBytes 4 (apertureOf ps).backing = (ps.drop 14).take 4 := fieldBytes_at rfl (by omega)
  have hclearRead : fieldBytes 2 (apertureOf ps).clearRead = (ps.drop 20).take 2 := fieldBytes_at rfl (by omega)
  have hall : ps = [ps.getD 0 0, ps.getD 1 0] ++ (ps.drop 2).take 3 ++ (ps.drop 5).take 3 ++ [ps.getD 8 0]
      ++ (ps.drop 9).take 2 ++ (ps.drop 11).take 2 ++ [ps.getD 13 0] ++ (ps.drop 14).take 4
      ++ [ps.getD 18 0, ps.getD 19 0] ++ (ps.drop 20).take 2 ++ [ps.getD 22 0] := by
    conv_lhs => rw [← List.drop_zero (l := ps), drop_eq_getD_cons (k := 0) (by omega),
      drop_eq_getD_cons (k := 1) (by omega), drop_eq_take_append ps 2 3, drop_eq_take_append ps 5 3,
      drop_eq_getD_cons (k := 8) (by omega), drop_eq_take_append ps 9 2, drop_eq_take_append ps 11 2,
      drop_eq_getD_cons (k := 13) (by omega), drop_eq_take_append ps 14 4,
      drop_eq_getD_cons (k := 18) (by omega), drop_eq_getD_cons (k := 19) (by omega),
      drop_eq_take_append ps 20 2, drop_eq_getD_cons (k := 22) (by omega),
      List.drop_of_length_le (by omega : ps.length ≤ 22 + 1)]
    simp only [List.append_assoc, List.cons_append, List.nil_append]
  rw [apertureBytes, hbase, hlimit, hwriteSet, hreadSet, hbacking, hclearRead]
  exact hall.symm

theorem jobBytes_jobOf (h : 26 = ps.length) : jobBytes (jobOf ps) = ps := by
  have hsource : fieldBytes 4 (jobOf ps).source = (ps.drop 3).take 4 := fieldBytes_at rfl (by omega)
  have htarget : fieldBytes 4 (jobOf ps).target = (ps.drop 7).take 4 := fieldBytes_at rfl (by omega)
  have hlength : fieldBytes 3 (jobOf ps).length = (ps.drop 11).take 3 := fieldBytes_at rfl (by omega)
  have hpattern : fieldBytes 8 (jobOf ps).pattern = (ps.drop 14).take 8 := fieldBytes_at rfl (by omega)
  have hall : ps = [ps.getD 0 0, ps.getD 1 0, ps.getD 2 0] ++ (ps.drop 3).take 4 ++ (ps.drop 7).take 4
      ++ (ps.drop 11).take 3 ++ (ps.drop 14).take 8
      ++ [ps.getD 22 0, ps.getD 23 0, ps.getD 24 0, ps.getD 25 0] := by
    conv_lhs => rw [← List.drop_zero (l := ps), drop_eq_getD_cons (k := 0) (by omega),
      drop_eq_getD_cons (k := 1) (by omega), drop_eq_getD_cons (k := 2) (by omega),
      drop_eq_take_append ps 3 4, drop_eq_take_append ps 7 4, drop_eq_take_append ps 11 3,
      drop_eq_take_append ps 14 8, drop_eq_getD_cons (k := 22) (by omega),
      drop_eq_getD_cons (k := 23) (by omega), drop_eq_getD_cons (k := 24) (by omega),
      drop_eq_getD_cons (k := 25) (by omega), List.drop_of_length_le (by omega : ps.length ≤ 25 + 1)]
    simp only [List.append_assoc, List.cons_append, List.nil_append]
  rw [jobBytes, hsource, htarget, hlength, hpattern]
  exact hall.symm

theorem keyBytes_wordOfKeyBytes (h : 18 = ps.length) :
    [ps.getD 0 0, ps.getD 1 0] ++ (wordOfKeyBytes (ps.drop 2)).toList = ps := by
  have hword : (wordOfKeyBytes (ps.drop 2)).toList = ps.drop 2 := by
    have hlen : (ps.drop 2).length = 16 := by rw [List.length_drop]; omega
    refine List.ext_getElem (by rw [Vector.length_toList, hlen]) fun k hk hk' => ?_
    have hk16 : k < 16 := by rwa [hlen] at hk'
    rw [Vector.getElem_toList]
    exact (Vector.getElem_ofFn hk16).trans (List.getD_eq_getElem _ _ hk')
  rw [hword]
  conv_rhs => rw [← List.drop_zero (l := ps), drop_eq_getD_cons (k := 0) (by omega),
    drop_eq_getD_cons (k := 1) (by omega)]
  rfl

/-! ### Commands and their codes (11, COMMAND CODES) -/

theorem paramLength_of_code (h : i.code = some (code, n)) : paramLength code = some n := by
  cases i <;> cases h <;> rfl

theorem code_ne_zero (h : i.code = some (code, n)) : code ≠ 0 := by
  cases i <;> cases h <;> decide

theorem length_params (h : i.code = some (code, n)) : i.params.length = n := by
  cases i <;> cases h
  case writeAperture p => exact (Laws.FrameCoding.writeAperture p).1
  case writeMask a m => exact (Laws.FrameCoding.writeMask a m).1
  case writeStream p => exact (Laws.FrameCoding.writeStream p).1
  case writeService p => exact (Laws.FrameCoding.writeService p).1
  case loadKey a b w => exact (Laws.FrameCoding.loadKey a b w).1
  case writeTimebase p => exact (Laws.FrameCoding.writeTimebase p).1
  case writeJob p => exact (Laws.FrameCoding.writeJob p).1
  all_goals rfl

theorem length_le (h : i.code = some (code, n)) : n ≤ 45 := by
  cases i <;> cases h <;> decide

/-- Each code of the table names a command with that code, whatever bytes follow. -/
theorem commandOf_of_paramLength (h : paramLength code = some n) (ps : List Byte) :
    ∃ i, commandOf code ps = some i ∧ i.code = some (code, n) := by
  unfold paramLength at h
  split at h
  case h_29 => cases h
  all_goals
    rename_i hcode
    obtain rfl := Machine.byte_eq_of_toNat (by decide) hcode
    cases h
    exact ⟨_, rfl, rfl⟩

/-- Bytes of the length that the code asks for are the parameter bytes of the command they are read as. -/
theorem params_of_commandOf (hi : commandOf code ps = some i) (hn : paramLength code = some ps.length) :
    i.params = ps := by
  unfold commandOf at hi
  split at hi
  case h_29 => cases hi
  all_goals
    rename_i hcode
    obtain rfl := Machine.byte_eq_of_toNat (by decide) hcode
    cases hi
    have hlen := Option.some.inj hn
  case h_2 | h_16 | h_17 | h_21 | h_22 | h_26 | h_27 | h_28 => exact none_of_length hlen
  case h_6 | h_8 | h_10 | h_12 | h_14 | h_20 | h_25 => exact one_of_length hlen
  case h_1 | h_4 | h_13 | h_19 | h_24 => exact two_of_length hlen
  case h_23 => exact four_of_length hlen
  case h_3 => exact apertureBytes_apertureOf hlen
  case h_5 => exact mask_of_length hlen
  case h_7 => exact streamBytes_streamOf hlen
  case h_9 => exact serviceBytes_serviceOf hlen
  case h_11 => exact keyBytes_wordOfKeyBytes hlen
  case h_15 => exact timebaseBytes_timebaseOf hlen
  case h_18 => exact jobBytes_jobOf hlen

/-! ### Periods (R174, R175) -/

theorem requestFrame_of_code (h : i.code = some (code, n)) : requestFrame i = some (frameOf code i.params) := by
  rw [requestFrame, h]
  rfl

theorem requestFrame_of_none (h : i.code = none) : requestFrame i = none := by
  rw [requestFrame, h]
  rfl

theorem examine_of_cons {first : Byte} {rest : List Byte} (h : p.bytes = first :: rest) (h0 : first ≠ 0) :
    examine p = examineRequest p := by
  rw [examine, h]
  exact if_neg h0

/-- A period that a framing check refuses is a BAD_FRAME (R175). -/
theorem examineRequest_of_not_framed (h : ¬ Framed p (p.bytes.getD 1 0).toNat) :
    examineRequest p = .badFrame := by
  unfold examineRequest
  dsimp only
  split
  case isTrue => rfl
  case isFalse hwhole =>
    split
    case isTrue => rfl
    case isFalse hlong =>
      split
      case isTrue => rfl
      case isFalse hcrc =>
        simp only [not_or, not_not, Nat.not_lt] at hwhole hlong hcrc
        exact absurd ⟨hwhole.1, rfl, hlong.1, hlong.2, hcrc⟩ h

/-- A framed period of a code that no command has is a BAD_COMMAND (R175). -/
theorem Framed.examineRequest_of_none (h : Framed p n) (hnone : paramLength (p.bytes.getD 0 0) = none) :
    examineRequest p = .badCommand := by
  rw [h.examineRequest_eq, hnone]
  rfl

/-- A framed period of a command with another length is a BAD_FRAME (R175). -/
theorem Framed.examineRequest_of_ne (h : Framed p n) {m : Nat}
    (hm : paramLength (p.bytes.getD 0 0) = some m) (hne : n ≠ m) : examineRequest p = .badFrame := by
  rw [h.examineRequest_eq, hm]
  exact if_pos hne

/-- A framed period of a command is read as that command (R175). -/
theorem Framed.examineRequest_of_eq (h : Framed p n) (hn : paramLength (p.bytes.getD 0 0) = some n) :
    ∃ i, examineRequest p = .command i ∧ commandOf (p.bytes.getD 0 0) ((p.bytes.drop 2).take n) = some i ∧
      i.code = some (p.bytes.getD 0 0, n) := by
  obtain ⟨i, hi, hcode⟩ := commandOf_of_paramLength hn ((p.bytes.drop 2).take n)
  refine ⟨i, ?_, hi, hcode⟩
  rw [h.examineRequest_eq, hn, hi]
  exact if_neg (not_not.mpr rfl)

/-- A framed period is the frame of its code and its parameter bytes. -/
theorem Framed.bytes_eq (h : Framed p n) :
    frameOf (p.bytes.getD 0 0) ((p.bytes.drop 2).take n) = p.bytes := by
  have hlen := h.length
  have hbody : ((p.bytes.drop 2).take n).length = n := by
    rw [List.length_take, List.length_drop]
    omega
  have hcount : BitVec.ofNat 8 n = p.bytes.getD 1 0 := by
    rw [← h.announced, BitVec.ofNat_toNat, BitVec.setWidth_eq]
  have hsplit : p.bytes = (p.bytes.getD 0 0 :: p.bytes.getD 1 0 :: (p.bytes.drop 2).take n) ++
      [p.bytes.getD (n + 2) 0] := by
    conv_lhs => rw [← List.drop_zero (l := p.bytes), drop_eq_getD_cons (k := 0) (by omega),
      drop_eq_getD_cons (k := 1) (by omega), drop_eq_take_append p.bytes 2 n, Nat.add_comm 2 n,
      drop_eq_getD_cons (k := n + 2) (by omega),
      List.drop_of_length_le (by omega : p.bytes.length ≤ n + 2 + 1)]
    rfl
  have hinside : p.bytes.take (n + 2) = p.bytes.getD 0 0 :: p.bytes.getD 1 0 :: (p.bytes.drop 2).take n := by
    conv_lhs => rw [hsplit]
    exact List.take_left' (by simp [hbody])
  rw [frameOf_eq, hbody, hcount, ← hinside, ← h.ownCrc, hinside, ← hsplit]

theorem framed_iff (p : Period) : Framed p (p.bytes.getD 1 0).toNat ↔
    p.extraBits = 0 ∧ p.bytes.length = 3 + (p.bytes.getD 1 0).toNat ∧ (p.bytes.getD 1 0).toNat ≤ 45 ∧
      p.bytes.getD ((p.bytes.getD 1 0).toNat + 2) 0 = crc8 (p.bytes.take ((p.bytes.getD 1 0).toNat + 2)) :=
  ⟨fun h => ⟨h.wholeBytes, h.length, h.atMost, h.ownCrc⟩,
    fun ⟨hwhole, hlen, hmost, hcrc⟩ => ⟨hwhole, rfl, hmost, hlen, hcrc⟩⟩

/-- The outcomes of a request period, by the framing checks and the command code table (R175). -/
theorem examineRequest_outcomes (p : Period) :
    (examineRequest p = .badFrame ↔ ¬ Framed p (p.bytes.getD 1 0).toNat ∨
      ∃ m, paramLength (p.bytes.getD 0 0) = some m ∧ (p.bytes.getD 1 0).toNat ≠ m) ∧
    (examineRequest p = .badCommand ↔
      Framed p (p.bytes.getD 1 0).toNat ∧ paramLength (p.bytes.getD 0 0) = none) := by
  by_cases h : Framed p (p.bytes.getD 1 0).toNat
  · cases hlen : paramLength (p.bytes.getD 0 0) with
    | none =>
      rw [h.examineRequest_of_none hlen]
      refine ⟨iff_of_false PeriodKind.noConfusion ?_, iff_of_true rfl ⟨h, rfl⟩⟩
      rintro (hbad | ⟨m, hm, -⟩)
      · exact hbad h
      · cases hm
    | some m =>
      by_cases hm : (p.bytes.getD 1 0).toNat = m
      · obtain ⟨i, hi, -⟩ := h.examineRequest_of_eq (hlen.trans (congrArg some hm.symm))
        rw [hi]
        refine ⟨iff_of_false PeriodKind.noConfusion ?_,
          iff_of_false PeriodKind.noConfusion (fun hno => nomatch hno.2)⟩
        rintro (hbad | ⟨m', hm', hne⟩)
        · exact hbad h
        · exact hne (hm.trans (Option.some.inj hm'))
      · rw [h.examineRequest_of_ne hlen hm]
        exact ⟨iff_of_true rfl (.inr ⟨m, rfl, hm⟩),
          iff_of_false PeriodKind.noConfusion (fun hno => nomatch hno.2)⟩
  · rw [examineRequest_of_not_framed h]
    exact ⟨iff_of_true rfl (.inl h), iff_of_false PeriodKind.noConfusion (fun hbad => h hbad.1)⟩

/-- A command's own frame is read as the command (R175, R177). -/
theorem examine_requestFrame (h : i.code = some (code, n)) :
    examine ⟨frameOf code i.params, 0⟩ = .command i := by
  have hlen := length_params h
  have hfew : i.params.length ≤ 45 := hlen ▸ length_le h
  have hfirst : (frameOf code i.params).getD 0 0 = code := rfl
  have hbody : ((frameOf code i.params).drop 2).take i.params.length = i.params := List.take_left' rfl
  have hlength : paramLength code = some i.params.length := by rw [hlen, paramLength_of_code h]
  rw [examine_frameOf (code_ne_zero h), (framed_frameOf hfew).examineRequest_eq, hfirst, hbody, hlength,
    commandOf_params h]
  exact if_neg (not_not.mpr rfl)

/-- A period that is read as a command is the command's own frame, to the last bit (R175, R177). -/
theorem frame_of_examine (h : examine p = .command i) :
    requestFrame i = some p.bytes ∧ p.extraBits = 0 := by
  cases hbytes : p.bytes with
  | nil => rw [examine, hbytes] at h; cases h
  | cons first rest =>
    by_cases h0 : first = 0
    · rw [examine, hbytes] at h
      exact absurd ((if_pos h0).symm.trans h) PeriodKind.noConfusion
    · rw [examine_of_cons hbytes h0] at h
      by_cases hframed : Framed p (p.bytes.getD 1 0).toNat
      · cases hlen : paramLength (p.bytes.getD 0 0) with
        | none => rw [hframed.examineRequest_of_none hlen] at h; cases h
        | some m =>
          by_cases hm : (p.bytes.getD 1 0).toNat = m
          · obtain ⟨j, hj, hcommand, hcode⟩ := hframed.examineRequest_of_eq (hlen.trans (congrArg some hm.symm))
            obtain rfl : j = i := PeriodKind.command.inj (hj.symm.trans h)
            have hbody : ((p.bytes.drop 2).take (p.bytes.getD 1 0).toNat).length =
                (p.bytes.getD 1 0).toNat := by
              have hall := hframed.length
              rw [List.length_take, List.length_drop]
              omega
            have hparams := params_of_commandOf hcommand (by rw [hbody, hlen, hm])
            rw [requestFrame_of_code hcode, hparams, hframed.bytes_eq, hbytes]
            exact ⟨rfl, hframed.wholeBytes⟩
          · rw [hframed.examineRequest_of_ne hlen hm] at h
            cases h
      · rw [examineRequest_of_not_framed hframed] at h
        cases h

end Sys2Proof

namespace Sys2Proof.Proofs
open Sys2Proof

/-- A command's frame, from its code and its parameter bytes. -/
theorem frame_of_code {i : Instr} {code : Byte} {n : Nat} (h : i.code = some (code, n)) :
    i.code = some (code, i.params.length) ∧
      ∀ inside, inside = code :: BitVec.ofNat 8 i.params.length :: i.params →
        requestFrame i = some (inside ++ [crc8 inside]) := by
  refine ⟨by rw [length_params h, h], ?_⟩
  rintro inside rfl
  exact requestFrame_of_code h

/-- Settles O60: every command's frame, its reading back, and the outcomes of a request period. -/
theorem framesAreReadBack : Obligations.FramesAreReadBack := by
  refine ⟨?_, ?_, fun code n => ⟨fun h => ?_, ?_⟩, ?_, ?_, ?_⟩
  · rintro is rfl
    exact ⟨fun _ _ => frame_of_code rfl, frame_of_code rfl, fun _ => frame_of_code rfl,
      fun _ _ => frame_of_code rfl, fun _ _ => frame_of_code rfl, fun _ => frame_of_code rfl,
      fun _ => frame_of_code rfl, fun _ => frame_of_code rfl, fun _ => frame_of_code rfl,
      fun _ => frame_of_code rfl, fun _ _ _ => frame_of_code rfl, fun _ => frame_of_code rfl,
      fun _ _ => frame_of_code rfl, fun _ => frame_of_code rfl, fun _ => frame_of_code rfl,
      frame_of_code rfl, frame_of_code rfl, fun _ => frame_of_code rfl, fun _ _ => frame_of_code rfl,
      fun _ => frame_of_code rfl, frame_of_code rfl, frame_of_code rfl, fun _ _ _ _ => frame_of_code rfl,
      fun _ _ => frame_of_code rfl, fun _ => frame_of_code rfl, frame_of_code rfl, frame_of_code rfl,
      frame_of_code rfl⟩
  · intro i h
    have hnone : i.code = none := by
      cases i
      case takeRequest | issueAccess | memoryAnswer | releaseResponse | tick | idleClose | retirement | expiry
          | referenceQualified | holdoverEnd | referenceLost | referenceReturned | frameStart | windowOpening
          | windowClosing | purgeAssertion | purgeRelease | resetAssertion | resetRelease | powerUp | readPeriod
          | badFrame | badCommand => rfl
      all_goals exact h.elim
    exact ⟨hnone, requestFrame_of_none hnone⟩
  · obtain ⟨i, -, hi⟩ := commandOf_of_paramLength h []
    exact ⟨i, hi⟩
  · rintro ⟨i, hi⟩
    exact paramLength_of_code hi
  · rintro p first rest hbytes h0 n rfl framed rfl
    have hfirst : p.bytes.getD 0 0 = first := by rw [hbytes]; rfl
    rw [examine_of_cons hbytes h0, ← framed_iff, ← hfirst]
    exact examineRequest_outcomes p
  · intro i frame hframe
    cases hcode : i.code with
    | none => rw [requestFrame_of_none hcode] at hframe; cases hframe
    | some c =>
      obtain rfl := Option.some.inj ((requestFrame_of_code hcode).symm.trans hframe)
      exact examine_requestFrame hcode
  · intro p i h
    exact frame_of_examine h

end Sys2Proof.Proofs
end
